-- ==== Sys2Proof/Word.lean ====
section
/-! DEFINITION. The words of NETCORE (00_scope.md R8): unsigned bit strings of the widths the rules name. -/

namespace Sys2Proof

/-- One byte (u8). -/
abbrev Byte := BitVec 8

/-- A 16-bit field (u16): ports, lengths, checksums, windows. -/
abbrev Half := BitVec 16

/-- A 32-bit number (u32): addresses, sequence numbers, operand registers, ticks. -/
abbrev Word := BitVec 32

/-- A byte string, first byte first (00_scope.md R8). -/
abbrev Bytes := List Byte

end Sys2Proof
end

