-- ==== Sys2Proof/Syntax.lean ====
section
/-! DEFINITION. The 43 operations of 30_encoding.md R110, and what selects one of them. -/

namespace Sys2Proof

/-- A parsed TCP segment (44_tcp_fsm.md R221). -/
structure Segment where
  srcPort : Half
  dstPort : Half
  seq : Word
  ack : Word
  /-- the six flag bits of 30_encoding.md R95 -/
  flags : BitVec 6
  wnd : Half
  /-- the value of the first MSS option (30_encoding.md R96), if there is one -/
  mssOpt : Option Half
  pay : Bytes
deriving DecidableEq, Repr

/-- One constructor per row of the opcode table. A host command carries the fields of its command word
that its operation names (30_encoding.md R100, R115), `seta` its `WDATA` too. An internal operation
carries the values its caller passes (30_encoding.md R110). -/
inductive Instr where
  /-- R298 -/
  | nop
  /-- R131 -/
  | csum
  /-- R134: `count` chunks -/
  | csumx (count : Byte)
  /-- R137: upper-layer protocol and length -/
  | csumul (proto : Byte) (len : Half)
  /-- R150: arrival interface -/
  | iprx (ifx : Byte)
  /-- R170: interface and protocol -/
  | iptx (ifx : Byte) (proto : Byte)
  /-- R200: interface -/
  | fragtick (ifx : Byte)
  /-- R210: arrival interface -/
  | lookupt (ifx : Byte)
  /-- R214: arrival interface -/
  | lookupu (ifx : Byte)
  /-- R255 -/
  | tcptick
  /-- R280 -/
  | lock
  /-- R281 -/
  | unlock
  /-- R283 -/
  | tick
  /-- R284: interface and register number -/
  | crrd (ifx : Byte) (reg : Half)
  /-- R285: interface and register number -/
  | crwr (ifx : Byte) (reg : Half)
  /-- R286: socket and field number -/
  | skrd (sock : Byte) (field : Half)
  /-- R287: register index and data word -/
  | seta (idx : Byte) (wdata : Word)
  /-- R289: register index -/
  | geta (idx : Byte)
  /-- R288: queue selector -/
  | drain (queue : Byte)
  /-- R290: type -/
  | sopen (kind : Half)
  /-- R291: socket and local port -/
  | sbind (sock : Byte) (port : Half)
  /-- R292: socket and backlog bound -/
  | slisten (sock : Byte) (bound : Half)
  /-- R293: socket and remote port -/
  | sconnect (sock : Byte) (port : Half)
  /-- R294: listener -/
  | saccept (sock : Byte)
  /-- R295: socket -/
  | sshut (sock : Byte)
  /-- R296: socket -/
  | sclose (sock : Byte)
  /-- R297: socket and most bytes wanted -/
  | srecv (sock : Byte) (most : Half)
  /-- R140 -/
  | pshdr (src dst : Word) (proto : Byte) (len : Half)
  /-- R165: arrival interface and complete datagram -/
  | ipdemux (ifx : Byte) (d : Bytes)
  /-- R185: arrival interface and admitted fragment -/
  | reasm (ifx : Byte) (d : Bytes)
  /-- R180 -/
  | ipfrag (ifx tos : Byte) (id : Half) (ttl proto : Byte) (src dst : Word) (pay : Bytes)
  /-- R220: arrival interface, addresses, IPv4 payload -/
  | tcprx (ifx : Byte) (src dst : Word) (seg : Bytes)
  /-- R240 -/
  | tcpsClosed (sock ifx : Byte) (src dst : Word) (seg : Segment)
  /-- R241 -/
  | tcpsListen (sock ifx : Byte) (src dst : Word) (seg : Segment)
  /-- R242 -/
  | tcpsSynSent (sock ifx : Byte) (src dst : Word) (seg : Segment)
  /-- R243 -/
  | tcpsSynRcvd (sock ifx : Byte) (src dst : Word) (seg : Segment)
  /-- R244 -/
  | tcpsEstablished (sock ifx : Byte) (src dst : Word) (seg : Segment)
  /-- R245 -/
  | tcpsCloseWait (sock ifx : Byte) (src dst : Word) (seg : Segment)
  /-- R246 -/
  | tcpsLastAck (sock ifx : Byte) (src dst : Word) (seg : Segment)
  /-- R247 -/
  | tcpsFinWait1 (sock ifx : Byte) (src dst : Word) (seg : Segment)
  /-- R248 -/
  | tcpsFinWait2 (sock ifx : Byte) (src dst : Word) (seg : Segment)
  /-- R249 -/
  | tcpsClosing (sock ifx : Byte) (src dst : Word) (seg : Segment)
  /-- R250 -/
  | tcpsTimeWait (sock ifx : Byte) (src dst : Word) (seg : Segment)
deriving DecidableEq, Repr

/-- What selects an operation, with the operands that come with it: the command word and `WDATA`
(30_encoding.md R100), one of the three selectors (R112 to R114), or, for the two internal operations
without a selector, the bare call. -/
inductive Entry where
  /-- R100 -/
  | command (cmd : Word) (wdata : Word)
  /-- selector FRAGSEL, R112 -/
  | fragsel (fo : Half) (ifx : Byte) (d : Bytes)
  /-- selector PROTO, R113 -/
  | proto (number : Byte) (ifx : Byte) (src dst : Word) (pay : Bytes)
  /-- selector STATE, R114 -/
  | state (code : BitVec 4) (sock ifx : Byte) (src dst : Word) (seg : Segment)
  /-- R140: no selector -/
  | pshdr (src dst : Word) (proto : Byte) (len : Half)
  /-- R180: no selector -/
  | ipfrag (ifx tos : Byte) (id : Half) (ttl proto : Byte) (src dst : Word) (pay : Bytes)
deriving DecidableEq, Repr

end Sys2Proof
end

