-- ==== Sys2Proof/Machine/Bits.lean ====
section
/-! DEFINITION. Byte strings, big-endian fields and sequence-number comparison (00_scope.md R8, R9, R11),
and the fields of the two wire formats (30_encoding.md R90 to R97). -/

namespace Sys2Proof.Machine

/-- Byte `i` of a byte string. Every rule tests a length before it reads; a byte past the end, which only
an internal operation entered with ill-formed operands can name, is `0x00` (log 16, DESIGN CHOICE). -/
def byteAt (b : Bytes) (i : Nat) : Byte := b.getD i 0#8

/-- `be16(s, i)` (00_scope.md R9). -/
def be16 (b : Bytes) (i : Nat) : Half := byteAt b i ++ byteAt b (i + 1)

/-- `be32(s, i)` (00_scope.md R9). -/
def be32 (b : Bytes) (i : Nat) : Word := be16 b i ++ be16 b (i + 2)

/-- `enc16(v)` (00_scope.md R9): high byte first. -/
def enc16 (v : Half) : Bytes := [v.extractLsb' 8 8, v.extractLsb' 0 8]

/-- `enc32(v)` (00_scope.md R9): high byte first. -/
def enc32 (v : Word) : Bytes :=
  [v.extractLsb' 24 8, v.extractLsb' 16 8, v.extractLsb' 8 8, v.extractLsb' 0 8]

/-- `s[i..j)` (00_scope.md R8). -/
def slice (b : Bytes) (i j : Nat) : Bytes := (b.take j).drop i

/-- `b` with the bytes from index `i` on replaced by `new`, as far as `b` reaches. -/
def overwrite (b : Bytes) (i : Nat) (new : Bytes) : Bytes :=
  b.take i ++ new.take (b.length - i) ++ b.drop (i + new.length)

/-- `swap16(v)` (00_scope.md R9). -/
def swap16 (v : Half) : Half := v.extractLsb' 0 8 ++ v.extractLsb' 8 8

/-- `seqLT(a, b)` (00_scope.md R11). -/
def seqLT (a b : Word) : Bool := (a - b).msb

/-- `seqLE(a, b)` (00_scope.md R11). -/
def seqLE (a b : Word) : Bool := a == b || seqLT a b

/-- `seqGT(a, b)` (00_scope.md R11). -/
def seqGT (a b : Word) : Bool := seqLT b a

/-- `seqGE(a, b)` (00_scope.md R11). -/
def seqGE (a b : Word) : Bool := seqLE b a

/-- `max(a, b)` on u16. -/
def maxHalf (a b : Half) : Half := if a.toNat < b.toNat then b else a

/-- `min(a, b)` on u16. -/
def minHalf (a b : Half) : Half := if b.toNat < a.toNat then b else a

/-- `ihl`, the header length in words (30_encoding.md R90). -/
def ihl (p : Bytes) : Nat := ((byteAt p 0) &&& 0x0F#8).toNat

/-- `hl = ihl * 4`, the header length in bytes (30_encoding.md R91). -/
def headerLen (p : Bytes) : Nat := ihl p * 4

/-- The field `fo`, flags and fragment offset (30_encoding.md R92). -/
def fragField (p : Bytes) : Half := be16 p 6

/-- A packet is a fragment iff `(fo & 0x3FFF) != 0` (30_encoding.md R92, R112). -/
def isFragment (fo : Half) : Bool := fo &&& 0x3FFF#16 != 0#16

/-- The six TCP flags (30_encoding.md R95). -/
def flagFIN : BitVec 6 := 0x01#6
def flagSYN : BitVec 6 := 0x02#6
def flagRST : BitVec 6 := 0x04#6
def flagPSH : BitVec 6 := 0x08#6
def flagACK : BitVec 6 := 0x10#6
def flagURG : BitVec 6 := 0x20#6

/-- `has(seg, F)` (30_encoding.md R95). -/
def has (seg : Segment) (f : BitVec 6) : Bool := seg.flags &&& f != 0#6

/-- The scan of 30_encoding.md R96 over what is left of the option area. `fuel` bounds the steps; each step
takes at least one byte, so the length of the area is enough. -/
def scanMss : Nat → Bytes → Option Half
  | 0, _ => none
  | _ + 1, [] => none
  | fuel + 1, kind :: rest =>
    if kind = 0#8 then none
    else if kind = 1#8 then scanMss fuel rest
    else match rest with
      | [] => none
      | n :: body =>
        if n.toNat < 2 ∨ n.toNat > rest.length + 1 then none
        else if kind = 2#8 ∧ n = 4#8 then some (be16 body 0)
        else scanMss fuel ((kind :: rest).drop n.toNat)

/-- `doff`, the TCP header length in words (30_encoding.md R94). -/
def dataOffset (s : Bytes) : Nat := (byteAt s 12 >>> 4).toNat

/-- `parse(S)` (44_tcp_fsm.md R221). -/
def parseSegment (s : Bytes) : Segment :=
  let o := slice s 20 (dataOffset s * 4)
  { srcPort := be16 s 0
    dstPort := be16 s 2
    seq := be32 s 4
    ack := be32 s 8
    flags := (byteAt s 13).extractLsb' 0 6
    wnd := be16 s 14
    mssOpt := scanMss o.length o
    pay := s.drop (dataOffset s * 4) }

/-- `segLen(seg)`, the length in sequence space (44_tcp_fsm.md R224). -/
def segLen (seg : Segment) : Nat :=
  seg.pay.length + (if has seg flagSYN then 1 else 0) + (if has seg flagFIN then 1 else 0)

/-- `finSeq(seg)` (44_tcp_fsm.md R224). -/
def finSeq (seg : Segment) : Word := seg.seq + BitVec.ofNat 32 seg.pay.length

end Sys2Proof.Machine
end

