-- ==== Sys2Proof/Config.lean ====
section
/-! DEFINITION. What an implementation fixes: the parameters of 00_scope.md R6, and the values that are
free inputs (10_state.md R62), given as constants without a body. -/

namespace Sys2Proof

/-- `TCP_OOO` (00_scope.md R6): whether out-of-order payload inside the window is held. -/
inductive OooMode where
  | buffer
  | drop
deriving DecidableEq, Repr

/-- The parameters of 00_scope.md R6. They are fixed for a whole run (10_state.md R62) and stand in
`State.par`, so a statement about every state is a statement about every choice of them
(assumption log 1, DESIGN CHOICE). `ADDR_W` and `TIME_W` are fixed at 32 by 92_eei_decisions.md D3, D24. -/
structure Params where
  /-- `N_IF` -/
  nIf : Nat
  /-- `N_ADDR` -/
  nAddr : Nat
  /-- `N_MCAST` -/
  nMcast : Nat
  /-- `N_SOCK` -/
  nSock : Nat
  /-- `N_FRAG` -/
  nFrag : Nat
  /-- `REASM_MAX_SIZE` -/
  reasmMaxSize : Nat
  /-- `REASM_TTL` -/
  reasmTtl : Nat
  /-- `SYNQ_MAX` -/
  synqMax : Nat
  /-- `MSS_MIN` -/
  mssMin : Half
  /-- `MSS_MAX` -/
  mssMax : Half
  /-- `MSS_DEFAULT` -/
  mssDefault : Half
  /-- `LOCAL_MSS` -/
  localMss : Half
  /-- `RX_WND` -/
  rxWnd : Half
  /-- `T_2MSL` -/
  t2msl : Nat
  /-- `T_FINWAIT2` -/
  tFinWait2 : Nat
  /-- `DEFAULT_TTL` -/
  defaultTtl : Byte
  /-- `DEFAULT_TOS` -/
  defaultTos : Byte
  /-- `FORWARDING` -/
  forwarding : Bool
  /-- `CSUM_PRESET` -/
  csumPreset : Half
  /-- `SYN_CHECK_CLOSES` -/
  synCheckCloses : Bool
  /-- `TCP_OOO` -/
  tcpOoo : OooMode
deriving DecidableEq, Repr

/-- `REASM_MAX_PAYLOAD = REASM_MAX_SIZE - 60` (00_scope.md R6). -/
def Params.reasmMaxPayload (p : Params) : Nat := p.reasmMaxSize - 60

/-- The constraints of 00_scope.md R6. The bounds 56 on `N_ADDR` and 3840 on `N_MCAST` keep the ranges of
the register map of 10_state.md R57 apart (log 18, DEDUCED); the bound 255 on `SYNQ_MAX` is the width of
`synqMax` in 10_state.md R29 (log 19, DEDUCED). -/
def Params.legal (p : Params) : Bool :=
  decide (1 ≤ p.nIf) && decide (p.nIf ≤ 255) &&
  decide (1 ≤ p.nAddr) && decide (p.nAddr ≤ 56) && decide (p.nMcast ≤ 3840) &&
  decide (1 ≤ p.nSock) && decide (p.nSock ≤ 255) && decide (1 ≤ p.nFrag) &&
  decide (68 ≤ p.reasmMaxSize) && decide (p.reasmMaxSize ≤ 65535) && decide (1 ≤ p.reasmTtl) &&
  decide (1 ≤ p.synqMax) && decide (p.synqMax ≤ 255) &&
  decide (1 ≤ p.mssMin) && decide (p.mssMin ≤ p.mssMax) &&
  decide (1 ≤ p.localMss) && decide (1 ≤ p.rxWnd) &&
  decide (1 ≤ p.t2msl) && decide (1 ≤ p.tFinWait2) &&
  (decide (p.csumPreset = 0x0000#16) || decide (p.csumPreset = 0xFFFF#16))

/-- The example column of 00_scope.md R6 (log 1, DESIGN CHOICE: the examples are no claim about the
hardware). -/
def Params.sample : Params where
  nIf := 1
  nAddr := 1
  nMcast := 4
  nSock := 8
  nFrag := 2
  reasmMaxSize := 1560
  reasmTtl := 15
  synqMax := 4
  mssMin := 64#16
  mssMax := 1460#16
  mssDefault := 536#16
  localMss := 1460#16
  rxWnd := 2048#16
  t2msl := 40
  tFinWait2 := 40
  defaultTtl := 64#8
  defaultTos := 0#8
  forwarding := false
  csumPreset := 0x0000#16
  synCheckCloses := false
  tcpOoo := .buffer

/-- Free value: the link-send primitive's answer to the `n`-th `emit` that no scripted answer covers
(20_memory.md R84; 93_implementation_defined.md U9; log 5). -/
opaque Config.linkAnswer : Nat → Bool

/-- Free value: what the hook `computeRto` returns at its `n`-th unscripted call (44_tcp_fsm.md R236;
93_implementation_defined.md U10; log 6). -/
opaque Config.rtoAnswer : Nat → Word

/-- Free value: what the hook `deferAck` returns at its `n`-th unscripted call (44_tcp_fsm.md R238;
93_implementation_defined.md U10; log 6). -/
opaque Config.deferAnswer : Nat → Bool

/-- Free value: the u32 read from an address of length 16, which no operation writes (10_state.md R26;
93_implementation_defined.md U15; log 11). -/
opaque Config.wordOfLong : BitVec 128 → Word

end Sys2Proof
end

