-- ==== Sys2Proof/Machine/State.lean ====
section
/-! DEFINITION. The network context of 10_state.md R20, the inputs one operation consumes (10_state.md R62),
and reset (10_state.md R60). Plain data throughout. -/

namespace Sys2Proof.Machine

/-- Why the machine stops. No command and no rule of the spec stops it (60_exceptions.md R323): each of these
is raised only for an internal operation that the model's own input `Input.internal` enters, or that `exec`
is given, with operands no caller of the spec passes (log 4, 15). All are safe. -/
inductive Fault where
  /-- An internal operation was given an interface index `>= N_IF`; its callers pass an index that
  45_host_ops.md R282 has checked. Raised by the meanings of IPDEMUX, REASM, IPFRAG, TCPRX, TCPS.*. Safe. -/
  | noSuchInterface
  /-- A state operation was given a socket index `>= N_SOCK`; 44_tcp_fsm.md R220 passes the index the lookup
  found. Raised by the meanings of TCPS.*. Safe. -/
  | noSuchRecord
  /-- A bare selector value that selects no operation of the block: a reserved state code (30_encoding.md
  R114, 93_implementation_defined.md U6) or a protocol number with an outside handler (R113). Raised by
  `step` for `Input.internal`. Safe. -/
  | noOperation
deriving DecidableEq, Repr

/-- Instructions without a meaning. -/
inductive Refusal where
  /-- The instruction of that mnemonic has no meaning yet. Raised by arms of `exec`; no arm does. Safe. -/
  | notModelled (mnemonic : String)
deriving DecidableEq, Repr

/-- `LOCK` (10_state.md R24). -/
inductive Lock where
  | free
  | held (task : Byte)
deriving DecidableEq, Repr

/-- An IP address by its length discriminator, 0, 4 or 16 (10_state.md R26). -/
inductive IpAddr where
  /-- length 0, unspecified -/
  | unspec
  /-- length 4, as `be32` of its bytes -/
  | v4 (a : Word)
  /-- length 16; no operation writes one (93_implementation_defined.md U15) -/
  | v6 (a : BitVec 128)
deriving DecidableEq, Repr

/-- The state of an address entry (10_state.md R28). -/
inductive AddrStatus where
  | invalid
  | tentative
  | valid
deriving DecidableEq, Repr

/-- An address entry (10_state.md R28). -/
structure AddrEntry where
  a : Word
  plen : BitVec 6
  status : AddrStatus
deriving DecidableEq, Repr

/-- The end of a hole: a number or `INF` (10_state.md R41). -/
inductive HoleEnd where
  | fin (n : Nat)
  | inf
deriving DecidableEq, Repr

/-- A hole `[first, last)` (10_state.md R41). -/
structure Hole where
  first : Nat
  last : HoleEnd
deriving DecidableEq, Repr

/-- A reassembly slot (10_state.md R40). -/
structure Slot where
  inUse : Bool
  src : Word
  dst : Word
  id : Half
  proto : Byte
  stamp : Word
  hlen : Byte
  hdr : Bytes
  dataLen : Nat
  data : Bytes
  holes : List Hole
deriving DecidableEq, Repr

/-- An interface record (10_state.md R27). -/
structure Iface where
  mtu : Half
  addr : List AddrEntry
  mcast : List Word
  ipId : Half
  frag : List Slot
deriving DecidableEq, Repr

/-- The type of a connection record (10_state.md R31). -/
inductive SockType where
  | unused
  | stream
  | datagram
  | raw
deriving DecidableEq, Repr

/-- The eleven TCP states (10_state.md R30). The reserved codes 11 to 15 cannot be represented, as
93_implementation_defined.md U6 asks (log 10). -/
inductive TcpState where
  | closed
  | listen
  | synSent
  | synRcvd
  | established
  | closeWait
  | lastAck
  | finWait1
  | finWait2
  | closing
  | timeWait
deriving DecidableEq, Repr

/-- A timer (10_state.md R34). -/
structure Timer where
  armed : Bool
  start : Word
deriving DecidableEq, Repr

/-- A SYN-queue entry (10_state.md R36). -/
structure SynEntry where
  ifx : Byte
  srcAddr : IpAddr
  destAddr : IpAddr
  srcPort : Half
  isn : Word
  mss : Half
deriving DecidableEq, Repr

/-- A connection record (10_state.md R29). `ooo` is the finite map of 10_state.md R37 as a list of
(sequence number, byte) with keys strictly rising, so equal maps are equal lists. -/
structure Sock where
  type : SockType
  owned : Bool
  ifBound : Byte
  ifx : Byte
  localAddr : IpAddr
  remoteAddr : IpAddr
  localPort : Half
  remotePort : Half
  state : TcpState
  iss : Word
  irs : Word
  sndUna : Word
  sndNxt : Word
  rcvNxt : Word
  sndWnd : Half
  maxSndWnd : Half
  rcvWnd : Half
  mss : Half
  rto : Word
  t2msl : Timer
  tFw2 : Timer
  synqMax : Byte
  synq : List SynEntry
  rxq : Bytes
  ooo : List (Word × Byte)
  ackPending : Bool
  resetFlag : Bool
  released : Bool
deriving DecidableEq, Repr

/-- An entry of `TXQ` (10_state.md R50). -/
structure TxEntry where
  ifx : Byte
  dst : Word
  ttl : Byte
  tos : Byte
  pkt : Bytes
deriving DecidableEq, Repr

/-- An entry of `ICMPQ` (10_state.md R51). -/
structure IcmpEntry where
  ifx : Byte
  type : Byte
  code : Byte
  param : Word
  pkt : Bytes
deriving DecidableEq, Repr

/-- The two event kinds (10_state.md R52). -/
inductive EventKind where
  | connPending
  | dataReady
deriving DecidableEq, Repr

/-- An entry of `EVQ` (10_state.md R52). -/
structure EvEntry where
  sock : Byte
  ev : EventKind
deriving DecidableEq, Repr

/-- The hand-off kinds of `UPQ` (10_state.md R53). -/
inductive UpKind where
  | udp
  | icmp
  | igmp
  | forward
deriving DecidableEq, Repr

/-- An entry of `UPQ` (10_state.md R53). -/
structure UpEntry where
  kind : UpKind
  ifx : Byte
  src : Word
  dst : Word
  proto : Byte
  payload : Bytes
deriving DecidableEq, Repr

/-- Buffer memory (20_memory.md R70): (address, byte) pairs in the canonical form of `Memory.wf`. -/
abbrev Memory := List Host.Cell

/-- What the outside presents to the block (70_reset_and_hazards.md R351, R352; log 3). -/
inductive Input where
  /-- a command word with its task id and data word -/
  | command (cmd : Word) (tid : Byte) (wdata : Word)
  /-- the host writes its own buffer memory between commands -/
  | store (addr : Word) (data : Bytes)
  /-- the reset input is asserted -/
  | reset
  /-- the MODEL's own way to enter one internal operation alone (log 4); no host has it -/
  | internal (e : Entry)
deriving DecidableEq, Repr

/-- What the last operation handed out beside `R0` and `ST`: outputs that the spec says are not state
(45_host_ops.md R288, R297; 40_checksum.md R140). The MODEL's own record (log 8). -/
inductive Output where
  | none
  /-- `RD` of SRECV, the value of PSHDR -/
  | bytes (b : Bytes)
  /-- the entries DRAIN removed -/
  | drained (tx : List TxEntry) (icmp : List IcmpEntry) (ev : List EvEntry) (up : List UpEntry)
deriving DecidableEq, Repr

/-- The whole state: the network context (10_state.md R20), then what the context is not but one step reads:
the parameters, buffer memory, and the inputs of 10_state.md R62. -/
structure State where
  /-- operand registers; `none` is the spec's own "holds no value" (10_state.md R21, R61; log 9) -/
  a : Vector (Option Word) 8
  /-- `R0` (10_state.md R22) -/
  r0 : Word
  /-- `ST` (10_state.md R22) -/
  st : Byte
  /-- `CMD` (10_state.md R23) -/
  cmd : Word
  /-- `TID` (10_state.md R23) -/
  tid : Byte
  /-- `LOCK` (10_state.md R24) -/
  lock : Lock
  /-- `NOW` (10_state.md R25) -/
  now : Word
  /-- `IF[0..N_IF-1]` (10_state.md R27) -/
  ifs : List Iface
  /-- `SOCK[0..N_SOCK-1]` (10_state.md R29) -/
  socks : List Sock
  /-- `TXQ` (10_state.md R50) -/
  txq : List TxEntry
  /-- `ICMPQ` (10_state.md R51) -/
  icmpq : List IcmpEntry
  /-- `EVQ` (10_state.md R52) -/
  evq : List EvEntry
  /-- `UPQ` (10_state.md R53) -/
  upq : List UpEntry
  /-- `CNT[0..255]` (10_state.md R56) -/
  cnt : Vector Word 256
  /-- the parameters (00_scope.md R6; log 1) -/
  par : Params
  /-- buffer memory, the host's (20_memory.md R70; log 2) -/
  mem : Memory
  /-- what has been presented and not yet taken (log 3) -/
  port : List Input
  /-- answers of the link-send primitive to come (20_memory.md R84; log 5) -/
  link : List Bool
  /-- answers of `computeRto` to come (44_tcp_fsm.md R236; log 6) -/
  rtoIn : List Word
  /-- answers of `deferAck` to come (44_tcp_fsm.md R238; log 6) -/
  deferIn : List Bool
  /-- the number of the next free value; the MODEL's own (log 7) -/
  free : Nat
  /-- the MODEL's own record of outputs (log 8) -/
  out : Output
deriving DecidableEq, Repr

/-- A released slot (10_state.md R60, 42_frag_reassembly.md R193). -/
def Slot.reset : Slot :=
  { inUse := false, src := 0, dst := 0, id := 0, proto := 0, stamp := 0, hlen := 0, hdr := [],
    dataLen := 0, data := [], holes := [] }

/-- A disarmed timer (10_state.md R34, R60). -/
def Timer.off : Timer := ⟨false, 0⟩

/-- A record with every field at its reset value (10_state.md R60). -/
def Sock.reset : Sock :=
  { type := .unused, owned := false, ifBound := 0xFF#8, ifx := 0, localAddr := .unspec,
    remoteAddr := .unspec, localPort := 0, remotePort := 0, state := .closed, iss := 0, irs := 0,
    sndUna := 0, sndNxt := 0, rcvNxt := 0, sndWnd := 0, maxSndWnd := 0, rcvWnd := 0, mss := 0, rto := 0,
    t2msl := Timer.off, tFw2 := Timer.off, synqMax := 0, synq := [], rxq := [], ooo := [],
    ackPending := false, resetFlag := false, released := false }

/-- An empty address entry (10_state.md R60). -/
def AddrEntry.reset : AddrEntry := ⟨0, 0, .invalid⟩

/-- An interface after reset (10_state.md R60). -/
def Iface.reset (p : Params) : Iface :=
  { mtu := 0
    addr := List.replicate p.nAddr AddrEntry.reset
    mcast := List.replicate p.nMcast 0
    ipId := 0
    frag := List.replicate p.nFrag Slot.reset }

/-- The machine right after reset with parameters `p` (10_state.md R60, 70_reset_and_hazards.md R340): the
network context as the spec says, nothing listed in buffer memory, nothing presented, nothing answered. -/
def State.resetWith (p : Params) : State :=
  { a := Vector.replicate 8 none
    r0 := 0
    st := 0
    cmd := 0
    tid := 0
    lock := .free
    now := 0
    ifs := List.replicate p.nIf (Iface.reset p)
    socks := List.replicate p.nSock Sock.reset
    txq := []
    icmpq := []
    evq := []
    upq := []
    cnt := Vector.replicate 256 0
    par := p
    mem := []
    port := []
    link := []
    rtoIn := []
    deferIn := []
    free := 0
    out := .none }

/-- The machine right after reset, with the example parameters (log 1). -/
def State.reset : State := State.resetWith Params.sample

end Sys2Proof.Machine
end

