-- ==== Sys2Proof/Machine/Flags.lean ====
section
/-! DEFINITION. The codes the host reads: the cause an operation leaves in `ST`, the only flag-like register
(10_state.md R22, 30_encoding.md R120), its class (R121), and the numeric codes of 10_state.md R28, R30, R31,
R52, R53. -/

namespace Sys2Proof.Machine

/-- The causes of 30_encoding.md R120. -/
inductive Cause where
  | ok
  | ipTooShort
  | ipBadVersion
  | ipBadHlen
  | ipBadTotlen
  | ipTruncated
  | ipBadSrc
  | ipTentative
  | ipNotLocal
  | ipForwarded
  | ipBadChecksum
  | ipUnknownProto
  | ipDeliveredUp
  | reasmBadLen
  | reasmNoSlot
  | reasmTooBig
  | reasmPending
  | reasmTimeout
  | txBadMtu
  | txFail
  | portUnreachable
  | tcpTooShort
  | tcpBadOffset
  | tcpBadChecksum
  | tcpSeqUnacceptable
  | tcpBadAck
  | tcpSynInWindow
  | tcpIgnored
  | tcpDupSyn
  | tcpReset
  | tcpClosedRst
  | synqEvicted
  | noFreeSocket
  | badState
  | wouldBlock
  | lockNotHeld
  | lockBusy
  | badOperand
  | badCommand
deriving DecidableEq, Repr

/-- The code of a cause (30_encoding.md R120). -/
def Cause.code : Cause → Byte
  | .ok => 0x00
  | .ipTooShort => 0x10
  | .ipBadVersion => 0x11
  | .ipBadHlen => 0x12
  | .ipBadTotlen => 0x13
  | .ipTruncated => 0x14
  | .ipBadSrc => 0x15
  | .ipTentative => 0x16
  | .ipNotLocal => 0x17
  | .ipForwarded => 0x18
  | .ipBadChecksum => 0x19
  | .ipUnknownProto => 0x1A
  | .ipDeliveredUp => 0x1B
  | .reasmBadLen => 0x20
  | .reasmNoSlot => 0x21
  | .reasmTooBig => 0x22
  | .reasmPending => 0x23
  | .reasmTimeout => 0x24
  | .txBadMtu => 0x28
  | .txFail => 0x29
  | .portUnreachable => 0x30
  | .tcpTooShort => 0x40
  | .tcpBadOffset => 0x41
  | .tcpBadChecksum => 0x42
  | .tcpSeqUnacceptable => 0x43
  | .tcpBadAck => 0x44
  | .tcpSynInWindow => 0x45
  | .tcpIgnored => 0x46
  | .tcpDupSyn => 0x47
  | .tcpReset => 0x48
  | .tcpClosedRst => 0x49
  | .synqEvicted => 0x4A
  | .noFreeSocket => 0x50
  | .badState => 0x51
  | .wouldBlock => 0x52
  | .lockNotHeld => 0x53
  | .lockBusy => 0x54
  | .badOperand => 0x7E
  | .badCommand => 0x7F

/-- Every cause, in the order of 30_encoding.md R120. -/
def Cause.all : List Cause :=
  [.ok, .ipTooShort, .ipBadVersion, .ipBadHlen, .ipBadTotlen, .ipTruncated, .ipBadSrc, .ipTentative,
   .ipNotLocal, .ipForwarded, .ipBadChecksum, .ipUnknownProto, .ipDeliveredUp, .reasmBadLen, .reasmNoSlot,
   .reasmTooBig, .reasmPending, .reasmTimeout, .txBadMtu, .txFail, .portUnreachable, .tcpTooShort,
   .tcpBadOffset, .tcpBadChecksum, .tcpSeqUnacceptable, .tcpBadAck, .tcpSynInWindow, .tcpIgnored, .tcpDupSyn,
   .tcpReset, .tcpClosedRst, .synqEvicted, .noFreeSocket, .badState, .wouldBlock, .lockNotHeld, .lockBusy,
   .badOperand, .badCommand]

/-- Marked "D" in 30_encoding.md R120: reached by `drop`, so counted. The others are informational. -/
def Cause.counted : Cause → Bool
  | .ok | .ipForwarded | .ipDeliveredUp | .reasmPending | .tcpReset | .wouldBlock | .lockBusy => false
  | .ipTooShort | .ipBadVersion | .ipBadHlen | .ipBadTotlen | .ipTruncated | .ipBadSrc | .ipTentative
  | .ipNotLocal | .ipBadChecksum | .ipUnknownProto | .reasmBadLen | .reasmNoSlot | .reasmTooBig
  | .reasmTimeout | .txBadMtu | .txFail | .portUnreachable | .tcpTooShort | .tcpBadOffset | .tcpBadChecksum
  | .tcpSeqUnacceptable | .tcpBadAck | .tcpSynInWindow | .tcpIgnored | .tcpDupSyn | .tcpClosedRst
  | .synqEvicted | .noFreeSocket | .badState | .lockNotHeld | .badOperand | .badCommand => true

/-- The error classes of 30_encoding.md R121. -/
inductive ErrorClass where
  | header
  | address
  | truncation
  | unknownProtocol
  | reassembly
  | resource
  | transmit
  | unreachable
  | tcpMalformed
  | tcpSemantic
  | host
deriving DecidableEq, Repr

/-- The class numbers of 30_encoding.md R121. -/
def ErrorClass.code : ErrorClass → Nat
  | .header => 1
  | .address => 2
  | .truncation => 3
  | .unknownProtocol => 4
  | .reassembly => 5
  | .resource => 6
  | .transmit => 7
  | .unreachable => 8
  | .tcpMalformed => 9
  | .tcpSemantic => 10
  | .host => 11

/-- The class of a cause (30_encoding.md R120, R121); an informational end has none. -/
def Cause.errorClass : Cause → Option ErrorClass
  | .ok | .ipForwarded | .ipDeliveredUp | .reasmPending | .tcpReset | .wouldBlock | .lockBusy => none
  | .ipTooShort | .ipBadVersion | .ipBadHlen | .ipBadTotlen | .ipBadChecksum => some .header
  | .ipTruncated => some .truncation
  | .ipBadSrc | .ipTentative | .ipNotLocal => some .address
  | .ipUnknownProto => some .unknownProtocol
  | .reasmBadLen | .reasmTooBig | .reasmTimeout => some .reassembly
  | .reasmNoSlot | .synqEvicted | .noFreeSocket => some .resource
  | .txBadMtu | .txFail => some .transmit
  | .portUnreachable => some .unreachable
  | .tcpTooShort | .tcpBadOffset | .tcpBadChecksum => some .tcpMalformed
  | .tcpSeqUnacceptable | .tcpBadAck | .tcpSynInWindow | .tcpIgnored | .tcpDupSyn | .tcpClosedRst =>
    some .tcpSemantic
  | .badState | .lockNotHeld | .badOperand | .badCommand => some .host

/-- State codes (10_state.md R30). -/
def TcpState.code : TcpState → BitVec 4
  | .closed => 0
  | .listen => 1
  | .synSent => 2
  | .synRcvd => 3
  | .established => 4
  | .closeWait => 5
  | .lastAck => 6
  | .finWait1 => 7
  | .finWait2 => 8
  | .closing => 9
  | .timeWait => 10

/-- Record type codes (10_state.md R31). -/
def SockType.code : SockType → BitVec 2
  | .unused => 0
  | .stream => 1
  | .datagram => 2
  | .raw => 3

/-- The types `SOPEN` takes (45_host_ops.md R290). -/
def SockType.ofOperand (y : Half) : Option SockType :=
  if y = 1#16 then some .stream
  else if y = 2#16 then some .datagram
  else if y = 3#16 then some .raw
  else none

/-- Address-state codes (10_state.md R28). -/
def AddrStatus.code : AddrStatus → BitVec 2
  | .invalid => 0
  | .tentative => 1
  | .valid => 2

/-- The address states `CRWR` takes (10_state.md R57): 0, 1, 2. -/
def AddrStatus.ofOperand (v : Word) : Option AddrStatus :=
  if v = 0#32 then some .invalid
  else if v = 1#32 then some .tentative
  else if v = 2#32 then some .valid
  else none

/-- Event codes (10_state.md R52). -/
def EventKind.code : EventKind → Byte
  | .connPending => 1
  | .dataReady => 2

/-- Hand-off codes (10_state.md R53). -/
def UpKind.code : UpKind → Byte
  | .udp => 17
  | .icmp => 1
  | .igmp => 2
  | .forward => 0xF0

/-- A Bool reads as 0 or 1 (10_state.md R58). -/
def boolWord (b : Bool) : Word := if b then 1#32 else 0#32

end Sys2Proof.Machine
end

