-- ==== Sys2Proof/Machine/Ops.lean ====
section
/-! DEFINITION. The named operations over the state: buffer memory, the ends of an operation (`drop` and
`done`, what this block has in place of an exception), reports, the link, the hooks, and the tables. -/

namespace Sys2Proof.Machine

/-! Buffer memory (20_memory.md R70). -/

/-- What an unlisted address of buffer memory reads as (log 2, DESIGN CHOICE). -/
def blank : Byte := 0x00#8

/-- One byte of buffer memory. -/
def memGet : Memory → Nat → Byte
  | [], _ => blank
  | (k, b) :: rest, a => if k = a then b else memGet rest a

/-- One byte written by the host; the canonical form is kept. -/
def memSet : Memory → Nat → Byte → Memory
  | [], a, b => if b = blank then [] else [(a, b)]
  | (k, v) :: rest, a, b =>
    if a < k then (if b = blank then (k, v) :: rest else (a, b) :: (k, v) :: rest)
    else if a = k then (if b = blank then rest else (a, b) :: rest)
    else (k, v) :: memSet rest a b

/-- The canonical form from address `lo` on: addresses strictly rising, below 2^32, no entry blank. -/
def memWfFrom : Nat → Memory → Bool
  | _, [] => true
  | lo, (k, b) :: rest =>
    decide (lo ≤ k) && decide (k < 2 ^ 32) && decide (b ≠ blank) && memWfFrom (k + 1) rest

/-- The canonical form of buffer memory. -/
def Memory.wf (m : Memory) : Bool := memWfFrom 0 m

/-- `MemRead(addr, n)`, addresses wrapping mod 2^32 (20_memory.md R70). -/
def memRead (m : Memory) : Word → Nat → Bytes
  | _, 0 => []
  | a, n + 1 => memGet m a.toNat :: memRead m (a + 1) n

/-- The host stores a byte string from `a` on (70_reset_and_hazards.md R346, R352). -/
def memStore : Memory → Word → Bytes → Memory
  | m, _, [] => m
  | m, a, b :: rest => memStore (memSet m a.toNat b) (a + 1) rest

/-! The ends of an operation (60_exceptions.md R310, R312). -/

/-- `R0 <- v` (10_state.md R22). -/
def setR0 (s : State) (v : Word) : State := { s with r0 := v }

/-- The output record written (log 8). -/
def setOut (s : State) (o : Output) : State := { s with out := o }

/-- `LOCK <- l` (10_state.md R24). -/
def setLock (s : State) (l : Lock) : State := { s with lock := l }

/-- Buffer memory as the host leaves it (70_reset_and_hazards.md R346). -/
def setMem (s : State) (m : Memory) : State := { s with mem := m }

/-- `CNT[c] <- CNT[c] + 1 mod 2^32` (10_state.md R56). -/
def count (s : State) (c : Cause) : State :=
  { s with cnt := s.cnt.set c.code.toNat (s.cnt[c.code.toNat]'c.code.isLt + 1) c.code.isLt }

/-- `done(code)`: end the operation without counting (00_scope.md R9). -/
def done (s : State) (c : Cause) : State := { s with st := c.code }

/-- `drop(cause)`: end the operation, `ST` and one counter written, nothing rolled back
(60_exceptions.md R312). -/
def drop (s : State) (c : Cause) : State := count { s with st := c.code } c

/-- An illegal command (30_encoding.md R111). -/
def illegalCommand (s : State) : State := drop (setR0 s 0) .badCommand

/-- A step of a rule that may end the operation: it went on, or it has ended. -/
inductive Flow where
  | go (s : State)
  | ended (s : State)
deriving DecidableEq, Repr

/-- The next step of the rule, if the operation has not ended (60_exceptions.md R312 (3)). -/
def Flow.andThen (f : Flow) (k : State → Flow) : Flow :=
  match f with
  | .go s => k s
  | .ended s => .ended s

/-- The state an operation leaves. -/
def Flow.state : Flow → State
  | .go s => s
  | .ended s => s

/-! Reports (60_exceptions.md R316, R318; 10_state.md R53). -/

/-- `raise Icmp(type, code, param, pkt)` (60_exceptions.md R316). -/
def raiseIcmp (s : State) (ifx type code : Byte) (param : Word) (pkt : Bytes) : State :=
  { s with icmpq := s.icmpq ++ [⟨ifx, type, code, param, pkt⟩] }

/-- `signal(sock, ev)` (60_exceptions.md R318). -/
def signal (s : State) (sock : Nat) (ev : EventKind) : State :=
  { s with evq := s.evq ++ [⟨BitVec.ofNat 8 sock, ev⟩] }

/-- A hand-off to a collaborator (10_state.md R53). -/
def pushUp (s : State) (e : UpEntry) : State := { s with upq := s.upq ++ [e] }

/-! The inputs an operation consumes (10_state.md R62). -/

/-- The next answer of the link-send primitive: scripted, or else free (log 5). -/
def linkAnswer (s : State) : Bool :=
  match s.link with
  | b :: _ => b
  | [] => Config.linkAnswer s.free

/-- The state after the link has answered once. -/
def linkAsked (s : State) : State :=
  match s.link with
  | _ :: rest => { s with link := rest }
  | [] => { s with free := s.free + 1 }

/-- `emit(ifx, dst, ttl, tos, pkt)`: the state after it; the packet joins `TXQ` iff the answer, `linkAnswer`,
is true (20_memory.md R84). -/
def emitState (s : State) (e : TxEntry) : State :=
  if linkAnswer s then { linkAsked s with txq := s.txq ++ [e] } else linkAsked s

/-- What `computeRto` answers: scripted, or else free (44_tcp_fsm.md R236; log 6). -/
def rtoAnswer (s : State) : Word :=
  match s.rtoIn with
  | v :: _ => v
  | [] => Config.rtoAnswer s.free

/-- The state after `computeRto` has answered once. -/
def rtoAsked (s : State) : State :=
  match s.rtoIn with
  | _ :: rest => { s with rtoIn := rest }
  | [] => { s with free := s.free + 1 }

/-- What `deferAck` answers: scripted, or else free (44_tcp_fsm.md R238; log 6). -/
def deferAnswer (s : State) : Bool :=
  match s.deferIn with
  | b :: _ => b
  | [] => Config.deferAnswer s.free

/-- The state after `deferAck` has answered once. -/
def deferAsked (s : State) : State :=
  match s.deferIn with
  | _ :: rest => { s with deferIn := rest }
  | [] => { s with free := s.free + 1 }

/-! Addresses (10_state.md R26, R28). -/

/-- The length discriminator (10_state.md R26). -/
def IpAddr.len : IpAddr → Nat
  | .unspec => 0
  | .v4 _ => 4
  | .v6 _ => 16

/-- `addrEq(a, b)`: equal lengths and equal bytes (10_state.md R26). -/
def addrEq (a b : IpAddr) : Bool := decide (a = b)

/-- `isUnspec(a)` (10_state.md R26). -/
def isUnspec : IpAddr → Bool
  | .unspec => true
  | .v4 a => decide (a = 0)
  | .v6 _ => false

/-- `isMcast(a)` for an address of length 4 (10_state.md R26). -/
def isMcast (a : Word) : Bool := decide (a.extractLsb' 28 4 = 0xE#4)

/-- The u32 of an address: 0 for length 0 (30_encoding.md R102, 45_host_ops.md R286); of length 16, which no
operation writes, a free value (log 11). -/
def IpAddr.word : IpAddr → Word
  | .unspec => 0
  | .v4 a => a
  | .v6 b => Config.wordOfLong b

/-- An address from an operand register: 0 is the unspecified address (30_encoding.md R102). -/
def addrOperand (v : Word) : IpAddr := if v = 0 then .unspec else .v4 v

/-- `mask(plen)` (10_state.md R28). -/
def prefixMask (plen : Nat) : Word := if plen = 0 then 0 else 0xFFFFFFFF#32 <<< (32 - plen)

/-- The directed broadcast address of an entry (10_state.md R28). -/
def AddrEntry.broadcast (e : AddrEntry) : Word := e.a ||| (prefixMask e.plen.toNat ^^^ 0xFFFFFFFF#32)

/-! The tables (10_state.md R27, R29, R40). -/

/-- `IF[i]`. An index past the table, which only a record that no rule writes can hold, reads as an
interface after reset (log 14, DESIGN CHOICE). -/
def State.iface (s : State) (i : Nat) : Iface := s.ifs.getD i (Iface.reset s.par)

/-- `IF[i] <- f`. -/
def setIface (s : State) (i : Nat) (f : Iface) : State := { s with ifs := s.ifs.set i f }

/-- `SOCK[i]`. -/
def State.sock (s : State) (i : Nat) : Sock := s.socks.getD i Sock.reset

/-- `SOCK[i] <- k`. -/
def setSock (s : State) (i : Nat) (k : Sock) : State := { s with socks := s.socks.set i k }

/-- `SOCK[i]` changed by `f`. -/
def updSock (s : State) (i : Nat) (f : Sock → Sock) : State := setSock s i (f (s.sock i))

/-- `IF[i].FRAG[j]`. -/
def State.slot (s : State) (i j : Nat) : Slot := (s.iface i).frag.getD j Slot.reset

/-- `IF[i].FRAG[j] <- f`. -/
def setSlot (s : State) (i j : Nat) (f : Slot) : State :=
  let r := s.iface i
  setIface s i { r with frag := r.frag.set j f }

/-- `release(F)` (42_frag_reassembly.md R193). -/
def releaseSlot (s : State) (i j : Nat) : State := setSlot s i j Slot.reset

/-- `recycle(s)` (44_tcp_fsm.md R234). -/
def recycle (s : State) (i : Nat) : State := setSock s i Sock.reset

/-- Arming a timer (10_state.md R34). -/
def armed (s : State) : Timer := ⟨true, s.now⟩

/-- The age of a timestamp (10_state.md R25). -/
def age (s : State) (stamp : Word) : Nat := (s.now - stamp).toNat

/-- A timer with bound `t` has expired (10_state.md R34). -/
def expired (s : State) (tm : Timer) (t : Nat) : Bool := tm.armed && decide (t ≤ age s tm.start)

/-- The least free record: `least n with SOCK[n].type = UNUSED` (45_host_ops.md R290, R294). -/
def freeSock (s : State) : Option Nat := s.socks.findIdx? (fun k => decide (k.type = .unused))

/-! The reset input (70_reset_and_hazards.md R340, R342). -/

/-- Every part of the network context at its reset value; parameters, buffer memory and what the outside
still has to say are untouched (70_reset_and_hazards.md R342; log 24). -/
def afterReset (s : State) : State :=
  { State.resetWith s.par with
    mem := s.mem, port := s.port, link := s.link, rtoIn := s.rtoIn, deferIn := s.deferIn, free := s.free }

end Sys2Proof.Machine
end

