-- ==== Sys2Proof/Machine/Operands.lean ====
section
/-! DEFINITION. The operands of a command: the operand registers (10_state.md R21), the checks before any
command (45_host_ops.md R282), and chunk lists (20_memory.md R72, 30_encoding.md R101). -/

namespace Sys2Proof.Machine

/-- `A[i]` has been written since reset (10_state.md R21). -/
def State.written (s : State) (i : Fin 8) : Bool := s.a[i].isSome

/-- `A[i]`; a command reads it only after `State.written` has been tested (45_host_ops.md R282). -/
def State.reg (s : State) (i : Fin 8) : Word := s.a[i].getD 0

/-- `A[i] <- v` (45_host_ops.md R287). -/
def setReg (s : State) (i : Fin 8) (v : Word) : State := { s with a := s.a.set i (some v) }

/-- The checks before a command runs, in order: the lock, the operand registers it names, their values
(45_host_ops.md R282). A refused command writes `R0 <- 0`, and so does an operation before it runs (10_state.md
R22, 60_exceptions.md R311; log 13). -/
def runCommand (s : State) (needsLock : Bool) (regs : List (Fin 8)) (legal : Bool)
    (body : State → State) : State :=
  if needsLock = true ∧ s.lock ≠ .held s.tid then drop (setR0 s 0) .lockNotHeld
  else if regs.all s.written = false then drop (setR0 s 0) .badOperand
  else if legal = false then drop (setR0 s 0) .badOperand
  else body (setR0 s 0)

/-- `x` names an interface (45_host_ops.md R282). -/
def State.hasIface (s : State) (x : Byte) : Bool := decide (x.toNat < s.par.nIf)

/-- `x` names a socket (45_host_ops.md R282). -/
def State.hasSock (s : State) (x : Byte) : Bool := decide (x.toNat < s.par.nSock)

/-- The bytes of the chunk list whose table of `n` entries stands at `t`: for each entry its address and
length, and then the bytes it denotes (30_encoding.md R101, 20_memory.md R72). -/
def chunkBytes (m : Memory) : Word → Nat → Bytes
  | _, 0 => []
  | t, n + 1 =>
    let e := memRead m t 8
    memRead m (be32 e 0) (be32 e 4).toNat ++ chunkBytes m (t + 8) n

/-- The region of `length` bytes from `offset`, clipped to the bytes that exist (40_checksum.md R134). -/
def clip (l : Bytes) (offset length : Nat) : Bytes := slice l (min offset l.length) (min (offset + length) l.length)

/-- The region that `A0` (table), `A1` (offset), `A2` (length) and a chunk count name (40_checksum.md R134). -/
def regionOperand (s : State) (n : Nat) : Bytes :=
  clip (chunkBytes s.mem (s.reg 0) n) (s.reg 1).toNat (s.reg 2).toNat

/-- The high half of a port pair: the source port (30_encoding.md R102). -/
def srcPortOf (v : Word) : Half := v.extractLsb' 16 16

/-- The low half of a port pair: the destination port (30_encoding.md R102). -/
def dstPortOf (v : Word) : Half := v.extractLsb' 0 16

end Sys2Proof.Machine
end

