-- ==== Sys2Proof/Machine/Lookup.lean ====
section
/-! DEFINITION. The socket lookup (43_socket_lookup.md): LOOKUPT, LOOKUPU. -/

namespace Sys2Proof.Machine

/-- An address filter admits a packet address of length 4 (43_socket_lookup.md R211). -/
def filterAdmits (f : IpAddr) (a : Word) : Bool := isUnspec f || addrEq f (.v4 a)

/-- The tests both lookups share: interface, local port, address filters (43_socket_lookup.md R211, R214). -/
def endpointMatches (k : Sock) (ifx : Byte) (src dst : Word) (dstPort : Half) : Bool :=
  (decide (k.ifBound = 0xFF#8) || decide (k.ifBound = ifx)) &&
  (decide (k.localPort ≠ 0) && decide (k.localPort = dstPort)) &&
  filterAdmits k.localAddr dst && filterAdmits k.remoteAddr src

/-- `candidateT` (43_socket_lookup.md R211). -/
def candidateT (k : Sock) (ifx : Byte) (src dst : Word) (dstPort : Half) : Bool :=
  decide (k.type = .stream) && endpointMatches k ifx src dst dstPort

/-- The scan of LOOKUPT from index `i` on, with the fallback remembered so far (43_socket_lookup.md R210,
R212). -/
def scanT (ifx : Byte) (src dst : Word) (srcPort dstPort : Half) :
    List Sock → Nat → Option Nat → Option Nat
  | [], _, fallback => fallback
  | k :: rest, i, fallback =>
    if candidateT k ifx src dst dstPort then
      if k.remotePort = srcPort then some i
      else if k.state = .listen ∧ fallback = none then scanT ifx src dst srcPort dstPort rest (i + 1) (some i)
      else scanT ifx src dst srcPort dstPort rest (i + 1) fallback
    else scanT ifx src dst srcPort dstPort rest (i + 1) fallback

/-- What LOOKUPT finds (43_socket_lookup.md R210). -/
def findTcp (s : State) (ifx : Byte) (src dst : Word) (srcPort dstPort : Half) : Option Nat :=
  scanT ifx src dst srcPort dstPort s.socks 0 none

/-- The test of LOOKUPU (43_socket_lookup.md R214). -/
def candidateU (k : Sock) (ifx : Byte) (src dst : Word) (srcPort dstPort : Half) : Bool :=
  decide (k.type = .datagram) && endpointMatches k ifx src dst dstPort &&
  (decide (k.remotePort = 0) || decide (k.remotePort = srcPort))

/-- What LOOKUPU finds: the first record that passes (43_socket_lookup.md R214). -/
def findUdp (s : State) (ifx : Byte) (src dst : Word) (srcPort dstPort : Half) : Option Nat :=
  s.socks.findIdx? (fun k => candidateU k ifx src dst srcPort dstPort)

/-- How a lookup ends (43_socket_lookup.md R210, R213). -/
def lookupEnd (s : State) (found : Option Nat) : State :=
  match found with
  | some i => done (setR0 s (BitVec.ofNat 32 i)) .ok
  | none => drop (setR0 s 0xFFFFFFFF#32) .portUnreachable

/-- LOOKUPT as a command (43_socket_lookup.md R210). -/
def execLookupt (ifx : Byte) (s : State) : Host.Outcome State Fault Refusal :=
  .next (runCommand s true [0, 1, 2] (s.hasIface ifx) fun s =>
    lookupEnd s (findTcp s ifx (s.reg 0) (s.reg 1) (srcPortOf (s.reg 2)) (dstPortOf (s.reg 2))))

/-- LOOKUPU (43_socket_lookup.md R214). -/
def execLookupu (ifx : Byte) (s : State) : Host.Outcome State Fault Refusal :=
  .next (runCommand s true [0, 1, 2] (s.hasIface ifx) fun s =>
    lookupEnd s (findUdp s ifx (s.reg 0) (s.reg 1) (srcPortOf (s.reg 2)) (dstPortOf (s.reg 2))))

end Sys2Proof.Machine
end

