-- ==== Sys2Proof/Machine/Checksum.lean ====
section
/-! DEFINITION. The checksum engine and the pseudo-header builder (40_checksum.md): CSUM, CSUMX, CSUMUL,
PSHDR. The operations follow the definition of R130; the reference datapaths of R132 and R135 stand beside
it, to be proved equal (R133). -/

namespace Sys2Proof.Machine

/-- The loop of `fold` (00_scope.md R10); each turn makes the number smaller, so `fuel = n` is enough. -/
def foldLoop : Nat → Nat → Nat
  | 0, n => n
  | fuel + 1, n => if 2 ^ 16 ≤ n then foldLoop fuel (n % 2 ^ 16 + n / 2 ^ 16) else n

/-- `fold(n)` (00_scope.md R10). -/
def fold (n : Nat) : Half := BitVec.ofNat 16 (foldLoop n n)

/-- `cpl(v)` (00_scope.md R10). -/
def cpl (v : Half) : Half := v ^^^ 0xFFFF#16

/-- `wsum(B)` (40_checksum.md R130): even positions are high bytes. -/
def wsum : Bytes → Nat
  | [] => 0
  | [b] => b.toNat * 256
  | b :: c :: rest => b.toNat * 256 + c.toNat + wsum rest

/-- `osum(B)` (40_checksum.md R130). -/
def osum (p : Params) (b : Bytes) : Half := fold (p.csumPreset.toNat + wsum b)

/-- `checksum(B)` (40_checksum.md R130). -/
def checksum (p : Params) (b : Bytes) : Half := cpl (osum p b)

/-- `PSHDR(src, dst, proto, len)` (40_checksum.md R140). -/
def pseudoHeader (src dst : Word) (proto : Byte) (len : Half) : Bytes :=
  enc32 src ++ enc32 dst ++ [0x00#8, proto] ++ enc16 len

/-- The checksum over a pseudo-header and a payload: uncomplemented sums added, folded once, complemented
once (40_checksum.md R137). -/
def upperChecksum (p : Params) (ph pl : Bytes) : Half :=
  cpl (fold ((osum p ph).toNat + (osum p pl).toNat))

/-- The lanes of the reference datapath after an odd first byte: whole lanes, then a last high byte
(40_checksum.md R132). -/
def laneAcc (m : Memory) : Word → Nat → Nat → Nat
  | _, 0, acc => acc
  | p, 1, acc => acc + (memGet m p.toNat).toNat * 256
  | p, n + 2, acc =>
    laneAcc m (p + 2) n (acc + ((memGet m p.toNat).toNat * 256 + (memGet m (p + 1).toNat).toNat))

/-- `lanesum(a, n)`: the reference datapath (40_checksum.md R132). -/
def laneSum (m : Memory) (a : Word) (n : Nat) : Half :=
  if a.toNat % 2 = 1 ∧ 1 ≤ n then
    swap16 (fold (laneAcc m (a + 1) (n - 1) (memGet m a.toNat).toNat))
  else
    let s := fold (laneAcc m a n 0)
    if a.toNat % 2 = 1 then swap16 s else s

/-- `CSUM` by the reference datapath (40_checksum.md R132). -/
def laneChecksum (p : Params) (m : Memory) (a : Word) (n : Nat) : Half :=
  cpl (fold (p.csumPreset.toNat + (laneSum m a n).toNat))

/-- The accumulator of the scattered datapath over the portions of a region, in order, from region position
`pos` on (40_checksum.md R135). -/
def portionAcc (m : Memory) : List (Word × Nat) → Nat → Nat → Nat
  | [], _, acc => acc
  | (a, n) :: rest, pos, acc =>
    let t := laneSum m a n
    portionAcc m rest (pos + n) (acc + (if pos % 2 = 1 then swap16 t else t).toNat)

/-- `CSUMX` by the reference datapath, over the portions of the region (40_checksum.md R135). -/
def portionChecksum (p : Params) (m : Memory) (portions : List (Word × Nat)) : Half :=
  cpl (fold (portionAcc m portions 0 p.csumPreset.toNat))

/-- The bytes that a list of (address, length) pairs denotes (20_memory.md R72). -/
def pieceBytes (m : Memory) : List (Word × Nat) → Bytes
  | [] => []
  | (a, n) :: rest => memRead m a n ++ pieceBytes m rest

/-- The chunks of the table of `n` entries at `t`, as (address, length) pairs (30_encoding.md R101). -/
def chunkTable (m : Memory) : Word → Nat → List (Word × Nat)
  | _, 0 => []
  | t, n + 1 =>
    let e := memRead m t 8
    (be32 e 0, (be32 e 4).toNat) :: chunkTable m (t + 8) n

/-- The portions of the region `[lo, hi)` of a chunk list whose first byte stands at logical position `pos`: of each
chunk the part inside the region, its address past the bytes skipped, empty parts left out (40_checksum.md R135). -/
def regionPortions (lo hi : Nat) : Nat → List (Word × Nat) → List (Word × Nat)
  | _, [] => []
  | pos, (a, n) :: rest =>
    let first := max lo pos
    let last := min hi (pos + n)
    (if first < last then [(a + BitVec.ofNat 32 (first - pos), last - first)] else []) ++
      regionPortions lo hi (pos + n) rest

/-- `CSUMX` by the reference datapath, from its chunks, offset and length: the region is clipped as R134 clips it
(40_checksum.md R134, R135). -/
def scatteredChecksum (p : Params) (m : Memory) (chunks : List (Word × Nat)) (offset length : Nat) : Half :=
  let total := (chunks.map (·.2)).sum
  portionChecksum p m (regionPortions (min offset total) (min (offset + length) total) 0 chunks)

/-- CSUM (40_checksum.md R131). -/
def execCsum (s : State) : Host.Outcome State Fault Refusal :=
  .next (runCommand s false [0, 1] true fun s =>
    done (setR0 s ((checksum s.par (memRead s.mem (s.reg 0) (s.reg 1).toNat)).setWidth 32)) .ok)

/-- CSUMX (40_checksum.md R134). -/
def execCsumx (n : Byte) (s : State) : Host.Outcome State Fault Refusal :=
  .next (runCommand s false [0, 1, 2] true fun s =>
    done (setR0 s ((checksum s.par (regionOperand s n.toNat)).setWidth 32)) .ok)

/-- CSUMUL (40_checksum.md R137). -/
def execCsumul (proto : Byte) (len : Half) (s : State) : Host.Outcome State Fault Refusal :=
  .next (runCommand s false [0, 1, 2, 3, 4, 5] true fun s =>
    let ph := pseudoHeader (s.reg 3) (s.reg 4) proto len
    let pl := regionOperand s (s.reg 5).toNat
    done (setR0 s ((upperChecksum s.par ph pl).setWidth 32)) .ok)

/-- PSHDR (40_checksum.md R140): the value is handed to the caller and kept nowhere; entered alone, the
model shows it in `out` (log 8). -/
def execPshdr (src dst : Word) (proto : Byte) (len : Half) (s : State) : Host.Outcome State Fault Refusal :=
  .next (setOut s (.bytes (pseudoHeader src dst proto len)))

end Sys2Proof.Machine
end

