-- ==== Sys2Proof/Machine/Transmit.lean ====
section
/-! DEFINITION. The IP send path and outbound fragmentation: IPTX (41_ip_admission.md R170 to R172) and
IPFRAG (42_frag_reassembly.md R180 to R183). -/

namespace Sys2Proof.Machine

/-- The 20 header bytes with the given checksum field (41_ip_admission.md R171). -/
def headerWith (tos : Byte) (totalLength : Nat) (id fo : Half) (ttl proto : Byte) (hcsum : Half)
    (src dst : Word) : Bytes :=
  [0x45#8, tos] ++ enc16 (BitVec.ofNat 16 totalLength) ++ enc16 id ++ enc16 fo ++ [ttl, proto] ++
    enc16 hcsum ++ enc32 src ++ enc32 dst

/-- `header(...)`: the 20 bytes with their own checksum filled in (41_ip_admission.md R171,
40_checksum.md R141). -/
def ipHeader (p : Params) (tos : Byte) (totalLength : Nat) (id fo : Half) (ttl proto : Byte)
    (src dst : Word) : Bytes :=
  headerWith tos totalLength id fo ttl proto
    (checksum p (headerWith tos totalLength id fo ttl proto 0 src dst)) src dst

/-- What one datagram carries besides its payload: the operands `IPTX` hands to `IPFRAG`
(42_frag_reassembly.md R180). -/
structure Datagram where
  ifx : Byte
  tos : Byte
  id : Half
  ttl : Byte
  proto : Byte
  src : Word
  dst : Word
deriving DecidableEq, Repr

/-- The packet of a datagram with the given `fo` and payload piece, as a `TXQ` entry
(41_ip_admission.md R171, 42_frag_reassembly.md R180). -/
def packetOf (p : Params) (g : Datagram) (fo : Half) (piece : Bytes) : TxEntry :=
  { ifx := g.ifx
    dst := g.dst
    ttl := g.ttl
    tos := g.tos
    pkt := ipHeader p g.tos (20 + piece.length) g.id fo g.ttl g.proto g.src g.dst ++ piece }

/-- `maxFrag` (42_frag_reassembly.md R180, R182). -/
def maxFragment (mtu : Half) : Nat := (mtu.toNat - 20) / 8 * 8

/-- `fo` of the fragment at payload offset `off` (42_frag_reassembly.md R180). -/
def fragmentField (off : Nat) (last : Bool) : Half :=
  BitVec.ofNat 16 (off / 8) ||| (if last then 0x0000#16 else 0x2000#16)

/-- The loop of IPFRAG from payload offset `off` on, `rest` being the payload from there
(42_frag_reassembly.md R180, R183). Each turn takes at least one byte, so the payload's length is enough
fuel. -/
def fragmentLoop (g : Datagram) (maxFrag : Nat) : Nat → Nat → Bytes → State → State
  | 0, _, _, s => done s .ok
  | _ + 1, _, [], s => done s .ok
  | fuel + 1, off, b :: rest, s =>
    let pay := b :: rest
    let n := min maxFrag pay.length
    let e := packetOf s.par g (fragmentField off (decide (n = pay.length))) (pay.take n)
    if linkAnswer s then
      fragmentLoop g maxFrag fuel (off + n) (pay.drop n) (setR0 (emitState s e) (s.r0 + 1))
    else drop (emitState s e) .txFail

/-- IPFRAG (42_frag_reassembly.md R180). `R0` is 0 when the MTU is refused (60_exceptions.md R311). -/
def sendFragments (g : Datagram) (pay : Bytes) (s : State) : State :=
  let mtu := (s.iface g.ifx.toNat).mtu
  if mtu.toNat < 28 then drop (setR0 s 0) .txBadMtu
  else fragmentLoop g (maxFragment mtu) pay.length 0 pay (setR0 s 0)

/-- `IF[i].ipId <- id + 1 mod 2^16` (41_ip_admission.md R172). -/
def advanceId (s : State) (i : Nat) : State :=
  let f := s.iface i
  setIface s i { f with ipId := f.ipId + 1 }

/-- IPTX on values (41_ip_admission.md R170). `R0` is 0 when the packet is refused before any send
(60_exceptions.md R311). -/
def sendIp (ifx : Byte) (src dst : Word) (proto ttl tos : Byte) (pay : Bytes) (s : State) : State :=
  let f := s.iface ifx.toNat
  if f.mtu = 0 then drop (setR0 s 0) .txBadMtu
  else if 65535 < 20 + pay.length then drop (setR0 s 0) .badOperand
  else
    let g : Datagram := ⟨ifx, tos, f.ipId, ttl, proto, src, dst⟩
    let s1 := advanceId s ifx.toNat
    if 20 + pay.length ≤ f.mtu.toNat then
      let e := packetOf s1.par g 0 pay
      if linkAnswer s1 then done (setR0 (emitState s1 e) 1) .ok
      else drop (setR0 (emitState s1 e) 0) .txFail
    else sendFragments g pay s1

/-- IPTX as a command (41_ip_admission.md R170). -/
def execIptx (ifx proto : Byte) (s : State) : Host.Outcome State Fault Refusal :=
  .next (runCommand s true [0, 1, 2, 3, 4, 5, 6] (s.hasIface ifx) fun s =>
    sendIp ifx (s.reg 3) (s.reg 4) proto ((s.reg 6).extractLsb' 8 8) ((s.reg 6).extractLsb' 0 8)
      (regionOperand s (s.reg 5).toNat) s)

/-- IPFRAG entered alone (42_frag_reassembly.md R180). -/
def execIpfrag (ifx tos : Byte) (id : Half) (ttl proto : Byte) (src dst : Word) (pay : Bytes) (s : State) :
    Host.Outcome State Fault Refusal :=
  if s.hasIface ifx then .next (sendFragments ⟨ifx, tos, id, ttl, proto, src, dst⟩ pay s)
  else .fault .noSuchInterface

end Sys2Proof.Machine
end

