-- ==== Sys2Proof/Machine/Tcp.lean ====
section
/-! DEFINITION. The TCP finite state machine (44_tcp_fsm.md): TCPRX, the eleven TCPS operations, TCPTICK. -/

namespace Sys2Proof.Machine

/-! Building and sending segments (44_tcp_fsm.md R232, R233). -/

/-- A segment the FSM sends: its header fields and option area; it has no payload (44_tcp_fsm.md R232). -/
structure OutSegment where
  srcPort : Half
  dstPort : Half
  seq : Word
  ack : Word
  flags : BitVec 6
  wnd : Half
  opt : Bytes
deriving DecidableEq, Repr

/-- The segment with the given checksum field; the urgent pointer is 0 (44_tcp_fsm.md R232). -/
def segmentWith (g : OutSegment) (csum : Half) : Bytes :=
  enc16 g.srcPort ++ enc16 g.dstPort ++ enc32 g.seq ++ enc32 g.ack ++
    [BitVec.ofNat 8 ((5 + g.opt.length / 4) * 16), g.flags.setWidth 8] ++ enc16 g.wnd ++ enc16 csum ++
    [0x00#8, 0x00#8] ++ g.opt

/-- The segment with its checksum filled in, for the given addresses (44_tcp_fsm.md R232,
40_checksum.md R138, R141). -/
def segmentBytes (p : Params) (src dst : Word) (g : OutSegment) : Bytes :=
  let t := segmentWith g 0
  segmentWith g (upperChecksum p (pseudoHeader src dst 6 (BitVec.ofNat 16 t.length)) t)

/-- The segment of record `k` with the given flags and sequence number (44_tcp_fsm.md R232). -/
def outSegmentOf (p : Params) (k : Sock) (flags : BitVec 6) (seq : Word) : OutSegment :=
  { srcPort := k.localPort
    dstPort := k.remotePort
    seq := seq
    ack := if flags &&& flagACK ≠ 0 then k.rcvNxt else 0
    flags := flags
    wnd := k.rcvWnd
    opt := if flags &&& flagSYN ≠ 0 then [0x02#8, 0x04#8] ++ enc16 p.localMss else [] }

/-- `sendSegment(K, flags, seq)`; the status of the inner IPTX is overwritten by the caller
(44_tcp_fsm.md R232). -/
def sendSegment (i : Nat) (flags : BitVec 6) (seq : Word) (s : State) : State :=
  let k := s.sock i
  let la := k.localAddr.word
  let ra := k.remoteAddr.word
  sendIp k.ifx la ra 6 s.par.defaultTtl s.par.defaultTos
    (segmentBytes s.par la ra (outSegmentOf s.par k flags seq)) s

/-- `sendAck(K)` (44_tcp_fsm.md R231). -/
def sendAck (i : Nat) (s : State) : State := sendSegment i flagACK (s.sock i).sndNxt s

/-- The reset that answers a segment (44_tcp_fsm.md R233). -/
def resetSegment (seg : Segment) : OutSegment :=
  if has seg flagACK then ⟨seg.dstPort, seg.srcPort, seg.ack, 0, flagRST, 0, []⟩
  else ⟨seg.dstPort, seg.srcPort, 0, seg.seq + BitVec.ofNat 32 (segLen seg), flagRST ||| flagACK, 0, []⟩

/-- `sendReset(ifx, src, dst, seg)` (44_tcp_fsm.md R233). -/
def sendReset (ifx : Byte) (src dst : Word) (seg : Segment) (s : State) : State :=
  sendIp ifx dst src 6 s.par.defaultTtl s.par.defaultTos (segmentBytes s.par dst src (resetSegment seg)) s

/-! Reaching CLOSED and TIME-WAIT (44_tcp_fsm.md R234, R235). -/

/-- The record on reaching CLOSED, before recycling (44_tcp_fsm.md R234). A kept record still holds its `ifx`, which
10_state.md R29 calls meaningless (0) in CLOSED and no step of R234 writes (log 27, DESIGN CHOICE). -/
def closedRecord (byReset : Bool) (k : Sock) : Sock :=
  { k with
    state := .closed, t2msl := Timer.off, tFw2 := Timer.off, ackPending := false, ooo := []
    resetFlag := if byReset then true else k.resetFlag }

/-- `enterClosed(s, byReset)` (44_tcp_fsm.md R234). -/
def enterClosed (i : Nat) (byReset : Bool) (s : State) : State :=
  if (s.sock i).owned then updSock s i (closedRecord byReset) else recycle s i

/-- `enterTimeWait(s)` (44_tcp_fsm.md R235). -/
def enterTimeWait (i : Nat) (s : State) : State :=
  updSock s i fun k =>
    { k with state := .timeWait, released := true, ooo := [], tFw2 := Timer.off, t2msl := armed s }

/-! The shared steps (44_tcp_fsm.md R225 to R231). -/

/-- `acceptable(K, seg)` (44_tcp_fsm.md R225). -/
def acceptable (k : Sock) (seg : Segment) : Bool :=
  let edge := k.rcvNxt + k.rcvWnd.setWidth 32
  if segLen seg = 0 then
    if k.rcvWnd = 0 then decide (seg.seq = k.rcvNxt)
    else seqGE seg.seq k.rcvNxt && seqLT seg.seq edge
  else
    if k.rcvWnd = 0 then false
    else seqLT seg.seq edge && seqGT (seg.seq + BitVec.ofNat 32 (segLen seg)) k.rcvNxt

/-- `seqCheck(K, seg)` (44_tcp_fsm.md R225). -/
def seqCheck (i : Nat) (seg : Segment) (s : State) : Flow :=
  if acceptable (s.sock i) seg then .go s
  else .ended (drop (if has seg flagRST then s else sendAck i s) .tcpSeqUnacceptable)

/-- `rstCheck(K, seg)` (44_tcp_fsm.md R226). -/
def rstCheck (i : Nat) (seg : Segment) (s : State) : Flow :=
  if has seg flagRST then .ended (done (enterClosed i true s) .tcpReset) else .go s

/-- `synCheck(K, seg)` (44_tcp_fsm.md R227). -/
def synCheck (i : Nat) (ifx : Byte) (src dst : Word) (seg : Segment) (s : State) : Flow :=
  if has seg flagSYN then
    let s1 := sendReset ifx src dst seg s
    .ended (drop (if s.par.synCheckCloses then enterClosed i true s1 else s1) .tcpSynInWindow)
  else .go s

/-- The record after an acknowledgement at or above `sndUna` (44_tcp_fsm.md R228). -/
def ackedRecord (seg : Segment) (k : Sock) : Sock :=
  { k with sndUna := seg.ack, sndWnd := seg.wnd, maxSndWnd := maxHalf k.maxSndWnd seg.wnd }

/-- `ackProc(K, seg)` (44_tcp_fsm.md R228); the hook `onAck` has no effect on this state (R236). -/
def ackProc (i : Nat) (seg : Segment) (s : State) : Flow :=
  if has seg flagACK then
    if seqGT seg.ack (s.sock i).sndNxt then .ended (drop (sendAck i s) .tcpBadAck)
    else if seqGE seg.ack (s.sock i).sndUna then .go (updSock s i (ackedRecord seg))
    else .go s
  else .ended (drop s .tcpIgnored)

/-- `std3` (44_tcp_fsm.md R237). -/
def std3 (i : Nat) (ifx : Byte) (src dst : Word) (seg : Segment) (s : State) : Flow :=
  ((seqCheck i seg s).andThen (rstCheck i seg)).andThen (synCheck i ifx src dst seg)

/-- `std4` (44_tcp_fsm.md R237). -/
def std4 (i : Nat) (ifx : Byte) (src dst : Word) (seg : Segment) (s : State) : Flow :=
  (std3 i ifx src dst seg s).andThen (ackProc i seg)

/-- The out-of-order store: the byte held under a sequence number (10_state.md R37). -/
def oooGet : List (Word × Byte) → Word → Option Byte
  | [], _ => none
  | (k, b) :: rest, q => if k = q then some b else oooGet rest q

/-- `K.ooo[q] <- b`, keys kept strictly rising (10_state.md R37). -/
def oooSet : List (Word × Byte) → Word → Byte → List (Word × Byte)
  | [], q, b => [(q, b)]
  | (k, v) :: rest, q, b =>
    if q < k then (q, b) :: (k, v) :: rest
    else if q = k then (q, b) :: rest
    else (k, v) :: oooSet rest q b

/-- Key `q` removed (44_tcp_fsm.md R229). -/
def oooErase : List (Word × Byte) → Word → List (Word × Byte)
  | [], _ => []
  | (k, v) :: rest, q => if k = q then rest else (k, v) :: oooErase rest q

/-- The first loop of `deliver`: the payload bytes from sequence number `q` on, each stored if it lies in
the window `[rcvNxt, edge)` (44_tcp_fsm.md R229). -/
def storePayload (rcvNxt edge : Word) : Word → Bytes → List (Word × Byte) → List (Word × Byte)
  | _, [], ooo => ooo
  | q, b :: rest, ooo =>
    storePayload rcvNxt edge (q + 1) rest
      (if seqGE q rcvNxt && seqLT q edge then oooSet ooo q b else ooo)

/-- The second loop of `deliver`: bytes contiguous from `rcvNxt` move to the receive queue. Each turn takes
one key away, so the number of keys is enough fuel (44_tcp_fsm.md R229). -/
def moveContiguous : Nat → Sock → Sock
  | 0, k => k
  | fuel + 1, k =>
    match oooGet k.ooo k.rcvNxt with
    | none => k
    | some b =>
      moveContiguous fuel
        { k with
          rxq := k.rxq ++ [b], ooo := oooErase k.ooo k.rcvNxt
          rcvNxt := k.rcvNxt + 1, rcvWnd := k.rcvWnd - 1 }

/-- The record after `deliver` of a segment with payload (44_tcp_fsm.md R229). -/
def deliveredRecord (p : Params) (seg : Segment) (k : Sock) : Sock :=
  let stored := storePayload k.rcvNxt (k.rcvNxt + k.rcvWnd.setWidth 32) seg.seq seg.pay k.ooo
  let moved := moveContiguous stored.length { k with ackPending := true, ooo := stored }
  match p.tcpOoo with
  | .buffer => moved
  | .drop => { moved with ooo := [] }

/-- `deliver(K, seg)` (44_tcp_fsm.md R229). -/
def deliver (i : Nat) (seg : Segment) (s : State) : State :=
  if seg.pay = [] then s
  else
    let k := deliveredRecord s.par seg (s.sock i)
    let s1 := setSock s i k
    if k.rxq.length = (s.sock i).rxq.length then s1 else signal s1 i .dataReady

/-- `finHandle(K, seg, post)` (44_tcp_fsm.md R230). -/
def finHandle (i : Nat) (seg : Segment) (post : TcpState) (s : State) : State :=
  if has seg flagFIN = true ∧ (s.sock i).rcvNxt = finSeq seg then
    let s1 := sendAck i (updSock s i fun k => { k with rcvNxt := k.rcvNxt + 1 })
    let s2 := updSock s1 i fun k => { k with ackPending := false }
    if post = .timeWait then enterTimeWait i s2 else updSock s2 i fun k => { k with state := post }
  else s

/-- `ackFlush(K, seg)` (44_tcp_fsm.md R231); the hook is asked only when an acknowledgement is owed. -/
def ackFlush (i : Nat) (s : State) : State :=
  if (s.sock i).ackPending then
    if deferAnswer s then deferAsked s
    else updSock (sendAck i (deferAsked s)) i fun k => { k with ackPending := false }
  else s

/-- `negMss(seg)` (44_tcp_fsm.md R222). -/
def negMss (p : Params) (seg : Segment) : Half :=
  minHalf (maxHalf (seg.mssOpt.getD p.mssDefault) p.mssMin) p.mssMax

/-! One operation per state (44_tcp_fsm.md R240 to R250). -/

/-- `TCPS.CLOSED` (44_tcp_fsm.md R240). -/
def tcpClosed (ifx : Byte) (src dst : Word) (seg : Segment) (s : State) : State :=
  if has seg flagRST then drop s .tcpIgnored
  else drop (sendReset ifx src dst seg s) .tcpClosedRst

/-- A queued request equal to this SYN in the fields an entry has (44_tcp_fsm.md R241). -/
def sameRequest (src dst : Word) (seg : Segment) (e : SynEntry) : Bool :=
  addrEq e.srcAddr (.v4 src) && addrEq e.destAddr (.v4 dst) && decide (e.srcPort = seg.srcPort)

/-- `TCPS.LISTEN` (44_tcp_fsm.md R241). -/
def tcpListen (i : Nat) (ifx : Byte) (src dst : Word) (seg : Segment) (s : State) : State :=
  let k := s.sock i
  if has seg flagRST then drop s .tcpIgnored
  else if has seg flagACK then drop (sendReset ifx src dst seg s) .tcpBadAck
  else if has seg flagSYN = false then drop s .tcpIgnored
  else if k.synq.any (sameRequest src dst seg) then drop s .tcpDupSyn
  else
    let e : SynEntry := ⟨ifx, .v4 src, .v4 dst, seg.srcPort, seg.seq, negMss s.par seg⟩
    let s1 :=
      if k.synqMax.toNat ≤ k.synq.length then
        count (updSock s i fun k => { k with synq := k.synq.tail ++ [e] }) .synqEvicted
      else updSock s i fun k => { k with synq := k.synq ++ [e] }
    done (signal s1 i .connPending) .ok

/-- The record after the SYN of an active open's peer, `rto` being the hook's answer (44_tcp_fsm.md R242). -/
def synRecord (p : Params) (seg : Segment) (rto : Word) (k : Sock) : Sock :=
  { k with
    irs := seg.seq, rcvNxt := seg.seq + 1, mss := negMss p seg, rto := rto
    sndWnd := seg.wnd, maxSndWnd := maxHalf k.maxSndWnd seg.wnd }

/-- `TCPS.SYNSENT` (44_tcp_fsm.md R242). -/
def tcpSynSent (i : Nat) (ifx : Byte) (src dst : Word) (seg : Segment) (s : State) : State :=
  if has seg flagACK = true ∧ seg.ack ≠ (s.sock i).sndNxt then
    drop (if has seg flagRST then s else sendReset ifx src dst seg s) .tcpBadAck
  else if has seg flagRST then
    if has seg flagACK then done (enterClosed i true s) .tcpReset else drop s .tcpIgnored
  else if has seg flagSYN = false then drop s .tcpIgnored
  else
    let s1 := updSock (rtoAsked s) i (synRecord s.par seg (rtoAnswer s))
    if has seg flagACK then
      let s2 := updSock s1 i fun k => { k with sndUna := seg.ack, state := .established }
      done (sendAck i s2) .ok
    else
      let s2 := updSock s1 i fun k => { k with state := .synRcvd }
      done (sendSegment i (flagSYN ||| flagACK) (s2.sock i).iss s2) .ok

/-- `TCPS.ESTABLISHED` (44_tcp_fsm.md R244). -/
def tcpEstablished (i : Nat) (ifx : Byte) (src dst : Word) (seg : Segment) (s : State) : State :=
  ((std4 i ifx src dst seg s).andThen fun s =>
    .ended (done (ackFlush i (finHandle i seg .closeWait (deliver i seg s))) .ok)).state

/-- The record of SYN-RECEIVED once its SYN is acknowledged (44_tcp_fsm.md R243). -/
def openedRecord (seg : Segment) (k : Sock) : Sock :=
  { k with sndWnd := seg.wnd, maxSndWnd := maxHalf k.maxSndWnd seg.wnd, state := .established }

/-- `TCPS.SYNRCVD`, falling through into `TCPS.ESTABLISHED` (44_tcp_fsm.md R243). -/
def tcpSynRcvd (i : Nat) (ifx : Byte) (src dst : Word) (seg : Segment) (s : State) : State :=
  ((std3 i ifx src dst seg s).andThen fun s =>
    if has seg flagACK = false then .ended (drop s .tcpIgnored)
    else if seg.ack ≠ (s.sock i).sndNxt then .ended (drop (sendReset ifx src dst seg s) .tcpBadAck)
    else .ended (tcpEstablished i ifx src dst seg (updSock s i (openedRecord seg)))).state

/-- `TCPS.CLOSEWAIT` (44_tcp_fsm.md R245). -/
def tcpCloseWait (i : Nat) (ifx : Byte) (src dst : Word) (seg : Segment) (s : State) : State :=
  ((std4 i ifx src dst seg s).andThen fun s => .ended (done (ackFlush i (deliver i seg s)) .ok)).state

/-- `TCPS.LASTACK` (44_tcp_fsm.md R246). -/
def tcpLastAck (i : Nat) (ifx : Byte) (src dst : Word) (seg : Segment) (s : State) : State :=
  ((std3 i ifx src dst seg s).andThen fun s =>
    if has seg flagACK = true ∧ seg.ack = (s.sock i).sndNxt then .ended (done (enterClosed i false s) .ok)
    else .ended (drop s .tcpIgnored)).state

/-- FIN-WAIT-1 on the acknowledgement of our FIN (44_tcp_fsm.md R247). -/
def finAcked (i : Nat) (seg : Segment) (s : State) : State :=
  if seg.ack = (s.sock i).sndNxt then
    updSock s i fun k => { k with state := .finWait2, tFw2 := armed s }
  else s

/-- The state a FIN leads to from FIN-WAIT-1 (44_tcp_fsm.md R247). -/
def postFin (k : Sock) : TcpState := if k.state = .finWait2 then .timeWait else .closing

/-- `TCPS.FINWAIT1` (44_tcp_fsm.md R247). -/
def tcpFinWait1 (i : Nat) (ifx : Byte) (src dst : Word) (seg : Segment) (s : State) : State :=
  ((std4 i ifx src dst seg s).andThen fun s =>
    let s1 := deliver i seg (finAcked i seg s)
    .ended (done (ackFlush i (finHandle i seg (postFin (s1.sock i)) s1)) .ok)).state

/-- `TCPS.FINWAIT2` (44_tcp_fsm.md R248). -/
def tcpFinWait2 (i : Nat) (ifx : Byte) (src dst : Word) (seg : Segment) (s : State) : State :=
  ((std4 i ifx src dst seg s).andThen fun s =>
    .ended (done (ackFlush i (finHandle i seg .timeWait (deliver i seg s))) .ok)).state

/-- `TCPS.CLOSING` (44_tcp_fsm.md R249). -/
def tcpClosing (i : Nat) (ifx : Byte) (src dst : Word) (seg : Segment) (s : State) : State :=
  ((std4 i ifx src dst seg s).andThen fun s =>
    if seg.ack = (s.sock i).sndNxt then .ended (done (enterTimeWait i s) .ok)
    else .ended (drop s .tcpIgnored)).state

/-- `TCPS.TIMEWAIT` (44_tcp_fsm.md R250). -/
def tcpTimeWait (i : Nat) (seg : Segment) (s : State) : State :=
  if has seg flagRST then done (enterClosed i true s) .tcpReset
  else if has seg flagFIN = true ∧ finSeq seg = (s.sock i).rcvNxt - 1 then
    let s1 := sendAck i s
    done (updSock s1 i fun k => { k with t2msl := armed s1 }) .ok
  else drop s .tcpIgnored

/-- The dispatch purely on `record.state` (44_tcp_fsm.md R223). -/
def tcpDispatch (i : Nat) (ifx : Byte) (src dst : Word) (seg : Segment) (s : State) : State :=
  match (s.sock i).state with
  | .closed => tcpClosed ifx src dst seg s
  | .listen => tcpListen i ifx src dst seg s
  | .synSent => tcpSynSent i ifx src dst seg s
  | .synRcvd => tcpSynRcvd i ifx src dst seg s
  | .established => tcpEstablished i ifx src dst seg s
  | .closeWait => tcpCloseWait i ifx src dst seg s
  | .lastAck => tcpLastAck i ifx src dst seg s
  | .finWait1 => tcpFinWait1 i ifx src dst seg s
  | .finWait2 => tcpFinWait2 i ifx src dst seg s
  | .closing => tcpClosing i ifx src dst seg s
  | .timeWait => tcpTimeWait i seg s

/-- The upper-layer checksum of a received segment, its own field included (44_tcp_fsm.md R220,
40_checksum.md R139). -/
def segmentCheck (p : Params) (src dst : Word) (seg : Bytes) : Half :=
  upperChecksum p (pseudoHeader src dst 6 (BitVec.ofNat 16 seg.length)) seg

/-- TCPRX on values (44_tcp_fsm.md R220). -/
def receiveTcp (ifx : Byte) (src dst : Word) (seg : Bytes) (s : State) : State :=
  let s0 := setR0 s 0xFFFFFFFF#32
  if seg.length < 20 then drop s0 .tcpTooShort
  else if dataOffset seg < 5 ∨ seg.length < dataOffset seg * 4 then drop s0 .tcpBadOffset
  else if segmentCheck s.par src dst seg ≠ 0 then drop s0 .tcpBadChecksum
  else
    let g := parseSegment seg
    match findTcp s ifx src dst g.srcPort g.dstPort with
    | none => lookupEnd s0 none
    | some i => setR0 (tcpDispatch i ifx src dst g (lookupEnd s0 (some i))) (BitVec.ofNat 32 i)

/-! The tick (44_tcp_fsm.md R255). -/

/-- The states whose owed acknowledgement the tick sends (44_tcp_fsm.md R255). -/
def TcpState.acksAtTick : TcpState → Bool
  | .established | .closeWait | .finWait1 | .finWait2 => true
  | .closed | .listen | .synSent | .synRcvd | .lastAck | .closing | .timeWait => false

/-- The tick finds record `k` at the end of TIME-WAIT or FIN-WAIT-2 (44_tcp_fsm.md R255). -/
def tickCloses (s : State) (k : Sock) : Bool :=
  decide (k.type = .stream) &&
  ((decide (k.state = .timeWait) && expired s k.t2msl s.par.t2msl) ||
   (decide (k.state = .finWait2) && expired s k.tFw2 s.par.tFinWait2))

/-- The tick finds an acknowledgement owed by record `k` (44_tcp_fsm.md R255). -/
def tickAcks (k : Sock) : Bool := decide (k.type = .stream) && k.ackPending && k.state.acksAtTick

/-- The tick's work on record `i` (44_tcp_fsm.md R255). -/
def tickSock (i : Nat) (s : State) : State :=
  let k := s.sock i
  if tickCloses s k then enterClosed i false s
  else if tickAcks k then updSock (sendAck i s) i fun k => { k with ackPending := false }
  else s

/-- The sweep over the records from `i` on, `n` of them, with the number closed so far. The count is kept
apart from `R0`, which an inner IPTX writes (log 12). -/
def tickSocks : Nat → Nat → Nat → State → State × Nat
  | 0, _, closed, s => (s, closed)
  | n + 1, i, closed, s =>
    tickSocks n (i + 1) (if tickCloses s (s.sock i) then closed + 1 else closed) (tickSock i s)

/-- TCPTICK on the whole table (44_tcp_fsm.md R255). -/
def tcpTick (s : State) : State :=
  let r := tickSocks s.par.nSock 0 0 s
  done (setR0 r.1 (BitVec.ofNat 32 r.2)) .ok

/-- TCPTICK as a command (44_tcp_fsm.md R255). -/
def execTcptick (s : State) : Host.Outcome State Fault Refusal :=
  .next (runCommand s true [] true tcpTick)

/-- TCPRX entered alone (44_tcp_fsm.md R220). -/
def execTcprx (ifx : Byte) (src dst : Word) (seg : Bytes) (s : State) : Host.Outcome State Fault Refusal :=
  if s.hasIface ifx then .next (receiveTcp ifx src dst seg s) else .fault .noSuchInterface

/-- A state operation entered alone, on a record and an interface that exist (44_tcp_fsm.md R223; log 15). -/
def stateOp (sock ifx : Byte) (body : State → State) (s : State) : Host.Outcome State Fault Refusal :=
  if s.hasIface ifx = false then .fault .noSuchInterface
  else if s.hasSock sock = false then .fault .noSuchRecord
  else .next (body s)

/-- TCPS.CLOSED (44_tcp_fsm.md R240). -/
def execTcpsClosed (sock ifx : Byte) (src dst : Word) (seg : Segment) (s : State) :
    Host.Outcome State Fault Refusal :=
  stateOp sock ifx (tcpClosed ifx src dst seg) s

/-- TCPS.LISTEN (44_tcp_fsm.md R241). -/
def execTcpsListen (sock ifx : Byte) (src dst : Word) (seg : Segment) (s : State) :
    Host.Outcome State Fault Refusal :=
  stateOp sock ifx (tcpListen sock.toNat ifx src dst seg) s

/-- TCPS.SYNSENT (44_tcp_fsm.md R242). -/
def execTcpsSynSent (sock ifx : Byte) (src dst : Word) (seg : Segment) (s : State) :
    Host.Outcome State Fault Refusal :=
  stateOp sock ifx (tcpSynSent sock.toNat ifx src dst seg) s

/-- TCPS.SYNRCVD (44_tcp_fsm.md R243). -/
def execTcpsSynRcvd (sock ifx : Byte) (src dst : Word) (seg : Segment) (s : State) :
    Host.Outcome State Fault Refusal :=
  stateOp sock ifx (tcpSynRcvd sock.toNat ifx src dst seg) s

/-- TCPS.ESTABLISHED (44_tcp_fsm.md R244). -/
def execTcpsEstablished (sock ifx : Byte) (src dst : Word) (seg : Segment) (s : State) :
    Host.Outcome State Fault Refusal :=
  stateOp sock ifx (tcpEstablished sock.toNat ifx src dst seg) s

/-- TCPS.CLOSEWAIT (44_tcp_fsm.md R245). -/
def execTcpsCloseWait (sock ifx : Byte) (src dst : Word) (seg : Segment) (s : State) :
    Host.Outcome State Fault Refusal :=
  stateOp sock ifx (tcpCloseWait sock.toNat ifx src dst seg) s

/-- TCPS.LASTACK (44_tcp_fsm.md R246). -/
def execTcpsLastAck (sock ifx : Byte) (src dst : Word) (seg : Segment) (s : State) :
    Host.Outcome State Fault Refusal :=
  stateOp sock ifx (tcpLastAck sock.toNat ifx src dst seg) s

/-- TCPS.FINWAIT1 (44_tcp_fsm.md R247). -/
def execTcpsFinWait1 (sock ifx : Byte) (src dst : Word) (seg : Segment) (s : State) :
    Host.Outcome State Fault Refusal :=
  stateOp sock ifx (tcpFinWait1 sock.toNat ifx src dst seg) s

/-- TCPS.FINWAIT2 (44_tcp_fsm.md R248). -/
def execTcpsFinWait2 (sock ifx : Byte) (src dst : Word) (seg : Segment) (s : State) :
    Host.Outcome State Fault Refusal :=
  stateOp sock ifx (tcpFinWait2 sock.toNat ifx src dst seg) s

/-- TCPS.CLOSING (44_tcp_fsm.md R249). -/
def execTcpsClosing (sock ifx : Byte) (src dst : Word) (seg : Segment) (s : State) :
    Host.Outcome State Fault Refusal :=
  stateOp sock ifx (tcpClosing sock.toNat ifx src dst seg) s

/-- TCPS.TIMEWAIT (44_tcp_fsm.md R250). -/
def execTcpsTimeWait (sock ifx : Byte) (_src _dst : Word) (seg : Segment) (s : State) :
    Host.Outcome State Fault Refusal :=
  stateOp sock ifx (tcpTimeWait sock.toNat seg) s

end Sys2Proof.Machine
end

