-- ==== Sys2Proof/Machine/Demux.lean ====
section
/-! DEFINITION. The protocol demultiplexer (41_ip_admission.md R165 to R167): IPDEMUX. -/

namespace Sys2Proof.Machine

/-- Source address of a datagram (30_encoding.md R90). -/
def srcOf (d : Bytes) : Word := be32 d 12

/-- Destination address of a datagram (30_encoding.md R90). -/
def dstOf (d : Bytes) : Word := be32 d 16

/-- Protocol of a datagram (30_encoding.md R90). -/
def protoOf (d : Bytes) : Byte := byteAt d 9

/-- Payload of a datagram (30_encoding.md R91). -/
def payloadOf (d : Bytes) : Bytes := d.drop (headerLen d)

/-- A hand-off to the UDP, ICMP or IGMP collaborator (41_ip_admission.md R165). -/
def handUp (kind : UpKind) (ifx : Byte) (d : Bytes) (s : State) : State :=
  done (pushUp s ⟨kind, ifx, srcOf d, dstOf d, protoOf d, payloadOf d⟩) .ipDeliveredUp

/-- The TCP arm: TCPRX, then the report for an unmatched segment (41_ip_admission.md R165, R167). -/
def demuxTcp (ifx : Byte) (d : Bytes) (s : State) : State :=
  let s1 := receiveTcp ifx (srcOf d) (dstOf d) (payloadOf d) s
  if s1.st = Cause.portUnreachable.code then raiseIcmp s1 ifx 3 3 0 d else s1

/-- IPDEMUX on values (41_ip_admission.md R165, R166). -/
def demux (ifx : Byte) (d : Bytes) (s : State) : State :=
  if protoOf d = 6 then demuxTcp ifx d s
  else if protoOf d = 17 then handUp .udp ifx d s
  else if protoOf d = 1 then handUp .icmp ifx d s
  else if protoOf d = 2 then handUp .igmp ifx d s
  else drop (raiseIcmp s ifx 3 2 0 d) .ipUnknownProto

/-- IPDEMUX entered alone (41_ip_admission.md R165). -/
def execIpdemux (ifx : Byte) (d : Bytes) (s : State) : Host.Outcome State Fault Refusal :=
  if s.hasIface ifx then .next (demux ifx d s) else .fault .noSuchInterface

end Sys2Proof.Machine
end

