-- ==== Sys2Proof/Machine/Reassembly.lean ====
section
/-! DEFINITION. The reassembly engine (42_frag_reassembly.md R185 to R193) and its timeout sweep (R200,
R201): REASM, FRAGTICK. -/

namespace Sys2Proof.Machine

/-- The key of a fragment: source, destination, identification, protocol (42_frag_reassembly.md R185). -/
structure FragKey where
  src : Word
  dst : Word
  id : Half
  proto : Byte
deriving DecidableEq, Repr

/-- The key of a packet (42_frag_reassembly.md R185). -/
def keyOf (d : Bytes) : FragKey := ⟨srcOf d, dstOf d, be16 d 4, protoOf d⟩

/-- The key of a slot (10_state.md R40). -/
def Slot.key (f : Slot) : FragKey := ⟨f.src, f.dst, f.id, f.proto⟩

/-- `mf` (42_frag_reassembly.md R185). -/
def moreFragments (d : Bytes) : Bool := fragField d &&& 0x2000#16 != 0#16

/-- `n`, the payload length of a fragment (42_frag_reassembly.md R185). -/
def fragLen (d : Bytes) : Nat := d.length - headerLen d

/-- `dataFirst` (42_frag_reassembly.md R185). -/
def dataFirst (d : Bytes) : Nat := (fragField d &&& 0x1FFF#16).toNat * 8

/-- `dataLast` (42_frag_reassembly.md R185). -/
def dataLast (d : Bytes) : Nat := dataFirst d + fragLen d

/-- `n < h.last`, `INF` being greater than every number (10_state.md R41). -/
def HoleEnd.above (e : HoleEnd) (n : Nat) : Bool :=
  match e with
  | .fin m => decide (n < m)
  | .inf => true

/-- One turn of the walk: what a hole becomes when the bytes `[first, last)` arrive
(42_frag_reassembly.md R190). -/
def splitHole (first last : Nat) (final : Bool) (h : Hole) : List Hole :=
  if h.last.above first = true ∧ h.first < last then
    (if h.first < first then [⟨h.first, .fin first⟩] else []) ++
    (if h.last.above last = true ∧ final = false then [⟨last, h.last⟩] else [])
  else [h]

/-- The walk over the hole list (42_frag_reassembly.md R190). -/
def splitHoles (first last : Nat) (final : Bool) (hs : List Hole) : List Hole :=
  hs.flatMap (splitHole first last final)

/-- A slot just opened for a key (42_frag_reassembly.md R187). -/
def openedSlot (k : FragKey) (now : Word) : Slot :=
  { inUse := true, src := k.src, dst := k.dst, id := k.id, proto := k.proto, stamp := now
    hlen := 0, hdr := [], dataLen := 0, data := [], holes := [⟨0, .inf⟩] }

/-- Step 2: the index of the slot and its contents to go on with, if there is a slot
(42_frag_reassembly.md R187). -/
def locateSlot (k : FragKey) (now : Word) (slots : List Slot) : Option (Nat × Slot) :=
  match slots.findIdx? (fun f => f.inUse && decide (f.key = k)) with
  | some j => some (j, slots.getD j Slot.reset)
  | none =>
    match slots.findIdx? (fun f => !f.inUse) with
    | some j => some (j, openedSlot k now)
    | none => none

/-- Step 3 (42_frag_reassembly.md R188). -/
def captureHeader (d : Bytes) (f : Slot) : Slot :=
  if dataFirst d = 0 then { f with hlen := BitVec.ofNat 8 (headerLen d), hdr := d.take (headerLen d) } else f

/-- The growth of step 4 (42_frag_reassembly.md R189). -/
def growSlot (d : Bytes) (f : Slot) : Slot :=
  if f.dataLen < dataLast d then
    { f with data := f.data ++ List.replicate (dataLast d - f.dataLen) 0#8, dataLen := dataLast d }
  else f

/-- Steps 5 and 6 (42_frag_reassembly.md R190, R191). -/
def mergeSlot (d : Bytes) (f : Slot) : Slot :=
  { f with
    holes := splitHoles (dataFirst d) (dataLast d) (!moreFragments d) f.holes
    data := overwrite f.data (dataFirst d) (payloadOf d) }

/-- `D'`, the completed datagram (42_frag_reassembly.md R192). -/
def completed (f : Slot) : Bytes :=
  overwrite (overwrite (overwrite f.hdr 2 (enc16 (BitVec.ofNat 16 (f.hlen.toNat + f.dataLen))))
    6 (enc16 0)) 10 (enc16 0) ++ f.data.take f.dataLen

/-- REASM on values (42_frag_reassembly.md R185 to R192). -/
def reassemble (ifx : Byte) (d : Bytes) (s : State) : State :=
  if moreFragments d = true ∧ fragLen d % 8 ≠ 0 then drop s .reasmBadLen
  else
    match locateSlot (keyOf d) s.now (s.iface ifx.toNat).frag with
    | none => drop s .reasmNoSlot
    | some (j, f) =>
      if s.par.reasmMaxPayload < dataLast d then drop (releaseSlot s ifx.toNat j) .reasmTooBig
      else
        let g := mergeSlot d (growSlot d (captureHeader d f))
        let s1 := setSlot s ifx.toNat j g
        if g.holes ≠ [] then done s1 .reasmPending
        else releaseSlot (demux ifx (completed g) s1) ifx.toNat j

/-- REASM entered alone (42_frag_reassembly.md R185). -/
def execReasm (ifx : Byte) (d : Bytes) (s : State) : Host.Outcome State Fault Refusal :=
  if s.hasIface ifx then .next (reassemble ifx d s) else .fault .noSuchInterface

/-! The timeout sweep. -/

/-- The first byte offset still missing; a slot in use has a hole (10_state.md R43; log 20). -/
def firstMissing (f : Slot) : Nat :=
  match f.holes with
  | h :: _ => h.first
  | [] => f.dataLen

/-- `ref(F)` (42_frag_reassembly.md R201). -/
def partialDatagram (f : Slot) : Bytes := f.hdr ++ f.data.take (firstMissing f)

/-- The sweep evicts this slot: in use, and its age exceeds the time-to-live (42_frag_reassembly.md R200). -/
def sweepEvicts (s : State) (f : Slot) : Bool := f.inUse && decide (s.par.reasmTtl < age s f.stamp)

/-- Eviction of slot `j` of interface `i` (42_frag_reassembly.md R200, R201). -/
def evict (i j : Nat) (s : State) : State :=
  let f := s.slot i j
  let s1 := if f.hlen ≠ 0 then raiseIcmp s (BitVec.ofNat 8 i) 11 1 0 (partialDatagram f) else s
  releaseSlot (count s1 .reasmTimeout) i j

/-- The sweep over `n` slots of interface `i` from slot `j` on (42_frag_reassembly.md R200). -/
def sweepSlots (i : Nat) : Nat → Nat → State → State
  | 0, _, s => s
  | n + 1, j, s =>
    sweepSlots i n (j + 1) (if sweepEvicts s (s.slot i j) then setR0 (evict i j s) (s.r0 + 1) else s)

/-- FRAGTICK on interface `i` (42_frag_reassembly.md R200). -/
def fragTick (i : Nat) (s : State) : State := done (sweepSlots i s.par.nFrag 0 (setR0 s 0)) .ok

/-- FRAGTICK as a command (42_frag_reassembly.md R200). -/
def execFragtick (ifx : Byte) (s : State) : Host.Outcome State Fault Refusal :=
  .next (runCommand s true [] (s.hasIface ifx) (fragTick ifx.toNat))

end Sys2Proof.Machine
end

