-- ==== Sys2Proof/Machine/Admission.lean ====
section
/-! DEFINITION. The IPv4 admission pipeline (41_ip_admission.md R150 to R161): IPRX. -/

namespace Sys2Proof.Machine

/-- An address entry that takes part in the address tests (41_ip_admission.md R156). -/
def AddrEntry.live (e : AddrEntry) : Bool := decide (e.status ≠ .invalid)

/-- `isBcast(ifx, a)` (41_ip_admission.md R156). -/
def isBcast (f : Iface) (a : Word) : Bool :=
  decide (a = 0xFFFFFFFF#32) ||
  f.addr.any (fun e => e.live && decide (1 ≤ e.plen.toNat) && decide (e.plen.toNat ≤ 30) && decide (a = e.broadcast))

/-- `ownEntry(ifx, a)` (41_ip_admission.md R156). -/
def ownEntry (f : Iface) (a : Word) : Option AddrEntry := f.addr.find? (fun e => e.live && decide (e.a = a))

/-- `joined(ifx, a)` (41_ip_admission.md R156). -/
def joined (f : Iface) (a : Word) : Bool := isMcast a && f.mcast.any (fun g => decide (a = g))

/-- The address step's verdict on a destination (41_ip_admission.md R157). -/
inductive DstVerdict where
  | accept
  | tentative
  | forward
  | notLocal
deriving DecidableEq, Repr

/-- Step 5 (41_ip_admission.md R157). -/
def dstVerdict (p : Params) (f : Iface) (dst : Word) : DstVerdict :=
  match ownEntry f dst with
  | some e => if e.status = .tentative then .tentative else .accept
  | none =>
    if isBcast f dst || joined f dst then .accept
    else if p.forwarding then .forward
    else .notLocal

/-- Steps 6 and 7 on the trimmed packet (41_ip_admission.md R159, R160). -/
def admitWhole (ifx : Byte) (d : Bytes) (s : State) : State :=
  if checksum s.par (d.take (headerLen d)) ≠ 0 then drop s .ipBadChecksum
  else if isFragment (fragField d) then reassemble ifx d s
  else demux ifx d s

/-- Steps 4 to 7 on the trimmed packet (41_ip_admission.md R155, R157, R158). -/
def admitTrimmed (ifx : Byte) (d : Bytes) (s : State) : State :=
  let f := s.iface ifx.toNat
  if isBcast f (srcOf d) || isMcast (srcOf d) then drop s .ipBadSrc
  else
    match dstVerdict s.par f (dstOf d) with
    | .accept => admitWhole ifx d s
    | .tentative => drop s .ipTentative
    | .forward => done (pushUp s ⟨.forward, ifx, srcOf d, dstOf d, protoOf d, d⟩) .ipForwarded
    | .notLocal => drop s .ipNotLocal

/-- The total-length field (30_encoding.md R90). -/
def totalLength (p : Bytes) : Nat := (be16 p 2).toNat

/-- The pipeline on the bytes received (41_ip_admission.md R151 to R154). -/
def admitPacket (ifx : Byte) (p : Bytes) (s : State) : State :=
  if p.length < 20 then drop s .ipTooShort
  else if byteAt p 0 >>> 4 ≠ 4 then drop s .ipBadVersion
  else if ihl p < 5 then drop s .ipBadHlen
  else if totalLength p < headerLen p then drop s .ipBadTotlen
  else if p.length < totalLength p then drop s .ipTruncated
  else admitTrimmed ifx (p.take (totalLength p)) s

/-- IPRX (41_ip_admission.md R150). -/
def execIprx (ifx : Byte) (s : State) : Host.Outcome State Fault Refusal :=
  .next (runCommand s true [0, 1] (s.hasIface ifx) fun s =>
    admitPacket ifx (memRead s.mem (s.reg 0) (s.reg 1).toNat) s)

end Sys2Proof.Machine
end

