-- ==== Sys2Proof/Machine/Registers.lean ====
section
/-! DEFINITION. The register maps of 10_state.md R57 and R58, and the host operations on them, on the lock,
the operand registers and the output queues (45_host_ops.md R280 to R289, R298): NOP, LOCK, UNLOCK, CRRD,
CRWR, SKRD, SETA, GETA, DRAIN. -/

namespace Sys2Proof.Machine

/-- The control registers (10_state.md R57). -/
inductive ControlReg where
  | crId
  | crNow
  | crLock
  | crCfg
  | crQlen
  | ifMtu
  | ifIpid
  | ifAddr (k : Nat)
  | ifPlen (k : Nat)
  | ifAst (k : Nat)
  | ifMcast (k : Nat)
  | cnt (c : Byte)
deriving DecidableEq, Repr

/-- The registers of address entry `n / 4`, `n` counted from `0x0020` (10_state.md R57). -/
def addrRegOf (n : Nat) : Option ControlReg :=
  if n % 4 = 0 then some (.ifAddr (n / 4))
  else if n % 4 = 1 then some (.ifPlen (n / 4))
  else if n % 4 = 2 then some (.ifAst (n / 4))
  else none

/-- The register of a number; `none` is a reserved number (10_state.md R57). -/
def controlRegOf (p : Params) (y : Half) : Option ControlReg :=
  let n := y.toNat
  if n = 0x0000 then some .crId
  else if n = 0x0001 then some .crNow
  else if n = 0x0002 then some .crLock
  else if n = 0x0003 then some .crCfg
  else if n = 0x0004 then some .crQlen
  else if n = 0x0010 then some .ifMtu
  else if n = 0x0011 then some .ifIpid
  else if 0x0020 ≤ n ∧ n < 0x0020 + 4 * p.nAddr then addrRegOf (n - 0x0020)
  else if 0x0100 ≤ n ∧ n < 0x0100 + p.nMcast then some (.ifMcast (n - 0x0100))
  else if 0x1000 ≤ n ∧ n < 0x1000 + 256 then some (.cnt (BitVec.ofNat 8 (n - 0x1000)))
  else none

/-- The registers for which `x` names an interface (45_host_ops.md R284). -/
def ControlReg.perIface : ControlReg → Bool
  | .crId | .crNow | .crLock | .crCfg | .crQlen | .cnt _ => false
  | .ifMtu | .ifIpid | .ifAddr _ | .ifPlen _ | .ifAst _ | .ifMcast _ => true

/-- The lock as `CR_LOCK` shows it: bit 8 held, bits 7:0 the owner (10_state.md R57). -/
def lockWord (l : Lock) : Word :=
  match l with
  | .free => 0
  | .held t => 0x100#32 ||| t.setWidth 32

/-- The parameters as `CR_CFG` shows them (10_state.md R57). -/
def configWord (p : Params) : Word :=
  (if p.forwarding then 0x1#32 else 0) ||| (if p.synCheckCloses then 0x2#32 else 0) |||
  (if p.tcpOoo = .buffer then 0x4#32 else 0) ||| (if p.csumPreset = 0xFFFF#16 then 0x8#32 else 0)

/-- A queue length saturating at 255 (10_state.md R57). -/
def saturated (n : Nat) : Word := BitVec.ofNat 32 (min n 255)

/-- The queue lengths as `CR_QLEN` shows them (10_state.md R57). -/
def queueWord (s : State) : Word :=
  saturated s.txq.length ||| saturated s.icmpq.length <<< 8 ||| saturated s.evq.length <<< 16 |||
  saturated s.upq.length <<< 24

/-- `IF[i].addr[k]`. -/
def Iface.entry (f : Iface) (k : Nat) : AddrEntry := f.addr.getD k AddrEntry.reset

/-- The value of a control register, widened with zeros (10_state.md R57, 45_host_ops.md R284). -/
def controlRead (s : State) (i : Nat) : ControlReg → Word
  | .crId => 0x4E455431#32
  | .crNow => s.now
  | .crLock => lockWord s.lock
  | .crCfg => configWord s.par
  | .crQlen => queueWord s
  | .ifMtu => (s.iface i).mtu.setWidth 32
  | .ifIpid => (s.iface i).ipId.setWidth 32
  | .ifAddr k => ((s.iface i).entry k).a
  | .ifPlen k => ((s.iface i).entry k).plen.setWidth 32
  | .ifAst k => ((s.iface i).entry k).status.code.setWidth 32
  | .ifMcast k => (s.iface i).mcast.getD k 0
  | .cnt c => s.cnt[c.toNat]'c.isLt

/-- Address entry `k` of an interface changed by `g`. -/
def Iface.setEntry (f : Iface) (k : Nat) (g : AddrEntry → AddrEntry) : Iface :=
  { f with addr := f.addr.set k (g (f.entry k)) }

/-- The interface record after a legal write; `none` for a read-only register and for an illegal value
(10_state.md R57, 45_host_ops.md R285). -/
def controlWrite (f : Iface) (v : Word) : ControlReg → Option Iface
  | .crId | .crNow | .crLock | .crCfg | .crQlen | .cnt _ => none
  | .ifMtu => if 68 ≤ v.toNat ∧ v.toNat ≤ 65535 then some { f with mtu := v.setWidth 16 } else none
  | .ifIpid => some { f with ipId := v.setWidth 16 }
  | .ifAddr k => some (f.setEntry k fun e => { e with a := v })
  | .ifPlen k => if v.toNat ≤ 32 then some (f.setEntry k fun e => { e with plen := v.setWidth 6 }) else none
  | .ifAst k => (AddrStatus.ofOperand v).map fun st => f.setEntry k fun e => { e with status := st }
  | .ifMcast k => if v = 0 ∨ isMcast v = true then some { f with mcast := f.mcast.set k v } else none

/-- Operands of CRRD: a listed register, and an interface where one is needed (45_host_ops.md R284). -/
def controlRegOperand (s : State) (ifx : Byte) (y : Half) : Option ControlReg :=
  match controlRegOf s.par y with
  | some r => if r.perIface && !s.hasIface ifx then none else some r
  | none => none

/-- What a legal CRWR makes of the interface record; `none` where it is refused (45_host_ops.md R285). -/
def controlWriteOperand (s : State) (ifx : Byte) (y : Half) : Option Iface :=
  (controlRegOperand s ifx y).bind (controlWrite (s.iface ifx.toNat) (s.reg 0))

/-- The fields SKRD reads, by number; `none` is an unlisted number (10_state.md R58). -/
def sockField (k : Sock) (y : Half) : Option Word :=
  match y.toNat with
  | 0 => some (k.type.code.setWidth 32)
  | 1 => some (boolWord k.owned)
  | 2 => some (k.ifBound.setWidth 32)
  | 3 => some k.localAddr.word
  | 4 => some (k.localPort.setWidth 32)
  | 5 => some k.remoteAddr.word
  | 6 => some (k.remotePort.setWidth 32)
  | 7 => some (k.state.code.setWidth 32)
  | 8 => some k.iss
  | 9 => some k.irs
  | 10 => some k.sndUna
  | 11 => some k.sndNxt
  | 12 => some k.rcvNxt
  | 13 => some (k.sndWnd.setWidth 32)
  | 14 => some (k.maxSndWnd.setWidth 32)
  | 15 => some (k.rcvWnd.setWidth 32)
  | 16 => some (k.mss.setWidth 32)
  | 17 => some k.rto
  | 18 => some (boolWord k.t2msl.armed)
  | 19 => some k.t2msl.start
  | 20 => some (boolWord k.tFw2.armed)
  | 21 => some k.tFw2.start
  | 22 => some (k.synqMax.setWidth 32)
  | 23 => some (BitVec.ofNat 32 k.synq.length)
  | 24 => some (BitVec.ofNat 32 k.rxq.length)
  | 25 => some (BitVec.ofNat 32 k.ooo.length)
  | 26 => some (boolWord k.ackPending)
  | 27 => some (boolWord k.resetFlag)
  | 28 => some (boolWord k.released)
  | 29 => some (k.ifx.setWidth 32)
  | _ => none

/-- NOP (45_host_ops.md R298). -/
def execNop (s : State) : Host.Outcome State Fault Refusal :=
  .next (runCommand s false [] true fun s => done s .ok)

/-- LOCK (45_host_ops.md R280). -/
def execLock (s : State) : Host.Outcome State Fault Refusal :=
  .next (runCommand s false [] true fun s =>
    match s.lock with
    | .free => done (setLock s (.held s.tid)) .ok
    | .held t => done (setR0 s (t.setWidth 32)) .lockBusy)

/-- UNLOCK (45_host_ops.md R281). -/
def execUnlock (s : State) : Host.Outcome State Fault Refusal :=
  .next (runCommand s false [] true fun s =>
    if s.lock = .held s.tid then done (setLock s .free) .ok else drop s .lockNotHeld)

/-- CRRD (45_host_ops.md R284). -/
def execCrrd (ifx : Byte) (reg : Half) (s : State) : Host.Outcome State Fault Refusal :=
  .next (runCommand s true [] (controlRegOperand s ifx reg).isSome fun s =>
    match controlRegOperand s ifx reg with
    | some r => done (setR0 s (controlRead s ifx.toNat r)) .ok
    | none => s)

/-- CRWR (45_host_ops.md R285). -/
def execCrwr (ifx : Byte) (reg : Half) (s : State) : Host.Outcome State Fault Refusal :=
  .next (runCommand s true [0] (controlWriteOperand s ifx reg).isSome fun s =>
    match controlWriteOperand s ifx reg with
    | some f => done (setIface s ifx.toNat f) .ok
    | none => s)

/-- SKRD (45_host_ops.md R286). -/
def execSkrd (sock : Byte) (field : Half) (s : State) : Host.Outcome State Fault Refusal :=
  .next (runCommand s true [] (s.hasSock sock && (sockField (s.sock sock.toNat) field).isSome) fun s =>
    done (setR0 s ((sockField (s.sock sock.toNat) field).getD 0)) .ok)

/-- The operand register an index names (45_host_ops.md R287, R289). -/
def regIndex (idx : Byte) : Option (Fin 8) := if h : idx.toNat < 8 then some ⟨idx.toNat, h⟩ else none

/-- SETA (45_host_ops.md R287). -/
def execSeta (idx : Byte) (wdata : Word) (s : State) : Host.Outcome State Fault Refusal :=
  .next (runCommand s false [] (regIndex idx).isSome fun s =>
    match regIndex idx with
    | some i => done (setReg s i wdata) .ok
    | none => s)

/-- GETA (45_host_ops.md R289). -/
def execGeta (idx : Byte) (s : State) : Host.Outcome State Fault Refusal :=
  .next (runCommand s false (regIndex idx).toList (regIndex idx).isSome fun s =>
    match regIndex idx with
    | some i => done (setR0 s (s.reg i)) .ok
    | none => s)

/-- Which queues a selector names: `TXQ`, `ICMPQ`, `EVQ`, `UPQ` (45_host_ops.md R288). -/
structure QueueSet where
  tx : Bool
  icmp : Bool
  ev : Bool
  up : Bool
deriving DecidableEq, Repr

/-- The queues of a selector; `none` is refused (45_host_ops.md R288). -/
def queuesOf (x : Byte) : Option QueueSet :=
  if x = 0 then some ⟨true, false, false, false⟩
  else if x = 1 then some ⟨false, true, false, false⟩
  else if x = 2 then some ⟨false, false, true, false⟩
  else if x = 3 then some ⟨false, false, false, true⟩
  else if x = 0xFF then some ⟨true, true, true, true⟩
  else none

/-- The entries of a selected queue; none of a queue not selected. -/
def taken {α : Type} (sel : Bool) (q : List α) : List α := if sel then q else []

/-- What stays in a queue. -/
def kept {α : Type} (sel : Bool) (q : List α) : List α := if sel then [] else q

/-- The selected queues emptied; what they held is the output (45_host_ops.md R288; log 8). -/
def drained (q : QueueSet) (s : State) : State :=
  { s with
    r0 := BitVec.ofNat 32 ((taken q.tx s.txq).length + (taken q.icmp s.icmpq).length +
      (taken q.ev s.evq).length + (taken q.up s.upq).length)
    txq := kept q.tx s.txq, icmpq := kept q.icmp s.icmpq, evq := kept q.ev s.evq, upq := kept q.up s.upq
    out := .drained (taken q.tx s.txq) (taken q.icmp s.icmpq) (taken q.ev s.evq) (taken q.up s.upq) }

/-- DRAIN (45_host_ops.md R288). -/
def execDrain (queue : Byte) (s : State) : Host.Outcome State Fault Refusal :=
  .next (runCommand s true [] (queuesOf queue).isSome fun s =>
    match queuesOf queue with
    | some q => done (drained q s) .ok
    | none => s)

end Sys2Proof.Machine
end

