-- ==== Sys2Proof/Machine/Sockets.lean ====
section
/-! DEFINITION. The socket operations (45_host_ops.md R290 to R297): SOPEN, SBIND, SLISTEN, SCONNECT, SACCEPT,
SSHUT, SCLOSE, SRECV. -/

namespace Sys2Proof.Machine

/-- SOPEN on a type the operand test has let through (45_host_ops.md R290). -/
def sockOpen (t : SockType) (s : State) : State :=
  match freeSock s with
  | none => drop (setR0 s 0xFFFFFFFF#32) .noFreeSocket
  | some n =>
    done (setR0 (setSock s n { Sock.reset with type := t, owned := true }) (BitVec.ofNat 32 n)) .ok

/-- SOPEN (45_host_ops.md R290). -/
def execSopen (kind : Half) (s : State) : Host.Outcome State Fault Refusal :=
  .next (runCommand s true [] (SockType.ofOperand kind).isSome fun s =>
    sockOpen ((SockType.ofOperand kind).getD .unused) s)

/-- SBIND past the operand tests (45_host_ops.md R291). -/
def sockBind (i : Nat) (port : Half) (s : State) : State :=
  let k := s.sock i
  if k.type = .unused ∨ k.owned = false ∨ k.state ≠ .closed then drop s .badState
  else
    done (setSock s i { k with
      localPort := port, localAddr := addrOperand (s.reg 0), ifBound := (s.reg 1).setWidth 8 }) .ok

/-- The interface binding `A1` of SBIND: none or an interface (45_host_ops.md R291). -/
def bindOperandOk (s : State) : Bool :=
  decide ((s.reg 1) = 0xFF#32) || decide ((s.reg 1).toNat < s.par.nIf)

/-- SBIND (45_host_ops.md R291). -/
def execSbind (sock : Byte) (port : Half) (s : State) : Host.Outcome State Fault Refusal :=
  .next (runCommand s true [0, 1] (s.hasSock sock && bindOperandOk s) (sockBind sock.toNat port))

/-- A stream record the application holds, in CLOSED and bound to a port (45_host_ops.md R292, R293). -/
def Sock.bound (k : Sock) : Bool :=
  decide (k.type = .stream) && k.owned && decide (k.state = .closed) && decide (k.localPort ≠ 0)

/-- SLISTEN past the operand tests (45_host_ops.md R292); the record keeps its `ifx` (log 27, DESIGN CHOICE). -/
def sockListen (i : Nat) (bound : Half) (s : State) : State :=
  let k := s.sock i
  if k.bound = false then drop s .badState
  else done (setSock s i { k with state := .listen, synqMax := bound.setWidth 8, synq := [] }) .ok

/-- The backlog bound of SLISTEN (45_host_ops.md R292). -/
def backlogOk (s : State) (bound : Half) : Bool :=
  decide (1 ≤ bound.toNat) && decide (bound.toNat ≤ s.par.synqMax)

/-- SLISTEN (45_host_ops.md R292). -/
def execSlisten (sock : Byte) (bound : Half) (s : State) : Host.Outcome State Fault Refusal :=
  .next (runCommand s true [] (s.hasSock sock && backlogOk s bound) (sockListen sock.toNat bound))

/-- The local address of an active open: the bound one, or the first VALID address of the outgoing interface,
if there is one (45_host_ops.md R293). -/
def connectAddr (k : Sock) (f : Iface) : Option IpAddr :=
  if isUnspec k.localAddr then
    match f.addr.find? (fun e => decide (e.status = .valid)) with
    | some e => some (.v4 e.a)
    | none => none
  else some k.localAddr

/-- The record of an active open, before its SYN is sent (45_host_ops.md R293). -/
def connectRecord (p : Params) (la : IpAddr) (remote iss out : Word) (port : Half) (k : Sock) : Sock :=
  { k with
    localAddr := la, remoteAddr := .v4 remote, remotePort := port, ifx := out.setWidth 8
    iss := iss, sndUna := iss, sndNxt := iss + 1
    irs := 0, rcvNxt := 0, rcvWnd := p.rxWnd, sndWnd := 0, maxSndWnd := 0
    mss := minHalf (maxHalf p.mssDefault p.mssMin) p.mssMax
    rxq := [], ooo := [], ackPending := false, resetFlag := false, released := false
    state := .synSent }

/-- SCONNECT past the operand tests (45_host_ops.md R293). -/
def sockConnect (i : Nat) (port : Half) (s : State) : State :=
  let k := s.sock i
  if k.bound = false then drop s .badState
  else
    match connectAddr k (s.iface (s.reg 2).toNat) with
    | none => drop s .badState
    | some la =>
      let r := connectRecord s.par la (s.reg 0) (s.reg 1) (s.reg 2) port k
      done (setR0 (sendSegment i flagSYN r.iss (setSock s i r)) 0) .ok

/-- The operands of SCONNECT: a remote port, a remote address, an interface (45_host_ops.md R293). -/
def connectOperandOk (s : State) (port : Half) : Bool :=
  decide (port ≠ 0) && decide (s.reg 0 ≠ 0) && decide ((s.reg 2).toNat < s.par.nIf)

/-- SCONNECT (45_host_ops.md R293). -/
def execSconnect (sock : Byte) (port : Half) (s : State) : Host.Outcome State Fault Refusal :=
  .next (runCommand s true [0, 1, 2] (s.hasSock sock && connectOperandOk s port) (sockConnect sock.toNat port))

/-- The record of an accepted connection, before its SYN+ACK is sent (45_host_ops.md R294). -/
def acceptRecord (p : Params) (k : Sock) (e : SynEntry) (iss rto : Word) : Sock :=
  { Sock.reset with
    type := .stream, owned := true, ifBound := k.ifBound, ifx := e.ifx
    localAddr := e.destAddr, localPort := k.localPort, remoteAddr := e.srcAddr, remotePort := e.srcPort
    iss := iss, sndUna := iss, sndNxt := iss + 1
    irs := e.isn, rcvNxt := e.isn + 1, rcvWnd := p.rxWnd, mss := e.mss, rto := rto
    state := .synRcvd }

/-- SACCEPT past the operand tests (45_host_ops.md R294). -/
def sockAccept (i : Nat) (s : State) : State :=
  let k := s.sock i
  if k.type ≠ .stream ∨ k.owned = false ∨ k.state ≠ .listen then drop s .badState
  else
    match k.synq with
    | [] => done (setR0 s 0xFFFFFFFF#32) .wouldBlock
    | e :: rest =>
      match freeSock s with
      | none => drop (setR0 s 0xFFFFFFFF#32) .noFreeSocket
      | some n =>
        let r := acceptRecord s.par k e (s.reg 1) (rtoAnswer s)
        let s1 := setSock (setSock (rtoAsked s) i { k with synq := rest }) n r
        done (setR0 (sendSegment n (flagSYN ||| flagACK) r.iss s1) (BitVec.ofNat 32 n)) .ok

/-- SACCEPT (45_host_ops.md R294). -/
def execSaccept (sock : Byte) (s : State) : Host.Outcome State Fault Refusal :=
  .next (runCommand s true [1] (s.hasSock sock) (sockAccept sock.toNat))

/-- Our FIN sent from state `st` on (45_host_ops.md R295, R296). -/
def sendFin (i : Nat) (st : TcpState) (s : State) : State :=
  let s1 := updSock s i fun k => { k with state := st }
  let s2 := sendSegment i (flagFIN ||| flagACK) (s1.sock i).sndNxt s1
  updSock s2 i fun k => { k with sndNxt := k.sndNxt + 1 }

/-- SSHUT past the operand tests (45_host_ops.md R295). -/
def sockShut (i : Nat) (s : State) : State :=
  let k := s.sock i
  if k.type ≠ .stream ∨ k.owned = false then drop s .badState
  else
    let fin (st : TcpState) : State :=
      done (setR0 (updSock (sendFin i st s) i fun k => { k with ackPending := false }) 0) .ok
    match k.state with
    | .established => fin .finWait1
    | .closeWait => fin .lastAck
    | .closed | .listen | .synSent | .synRcvd | .lastAck | .finWait1 | .finWait2 | .closing | .timeWait =>
      drop s .badState

/-- SSHUT (45_host_ops.md R295). -/
def execSshut (sock : Byte) (s : State) : Host.Outcome State Fault Refusal :=
  .next (runCommand s true [] (s.hasSock sock) (sockShut sock.toNat))

/-- What letting go of a record does to it, `owned` being cleared already (45_host_ops.md R296). -/
def letGo (i : Nat) (s : State) : State :=
  let k := s.sock i
  if k.type ≠ .stream then recycle s i
  else
    match k.state with
    | .closed | .listen | .synSent => recycle s i
    | .synRcvd | .established => sendFin i .finWait1 s
    | .closeWait => sendFin i .lastAck s
    | .lastAck | .finWait1 | .finWait2 | .closing | .timeWait => s

/-- SCLOSE past the operand tests (45_host_ops.md R296). -/
def sockClose (i : Nat) (s : State) : State :=
  let k := s.sock i
  if k.type = .unused ∨ k.owned = false then drop s .badState
  else done (setR0 (letGo i (setSock s i { k with owned := false })) 0) .ok

/-- SCLOSE (45_host_ops.md R296). -/
def execSclose (sock : Byte) (s : State) : Host.Outcome State Fault Refusal :=
  .next (runCommand s true [] (s.hasSock sock) (sockClose sock.toNat))

/-- The record after `n` bytes were taken (45_host_ops.md R297). -/
def receivedRecord (n : Nat) (k : Sock) : Sock :=
  { k with rxq := k.rxq.drop n, rcvWnd := k.rcvWnd + BitVec.ofNat 16 n }

/-- SRECV past the operand tests; `RD` is shown in `out` (45_host_ops.md R297; log 8). -/
def sockRecv (i : Nat) (most : Half) (s : State) : State :=
  let k := s.sock i
  if k.type ≠ .stream ∨ k.owned = false then drop s .badState
  else if k.rxq = [] then done s .wouldBlock
  else
    let n := min most.toNat k.rxq.length
    done (setOut (setR0 (setSock s i (receivedRecord n k)) (BitVec.ofNat 32 n)) (.bytes (k.rxq.take n))) .ok

/-- SRECV (45_host_ops.md R297). -/
def execSrecv (sock : Byte) (most : Half) (s : State) : Host.Outcome State Fault Refusal :=
  .next (runCommand s true [] (s.hasSock sock && decide (most ≠ 0)) (sockRecv sock.toNat most))

end Sys2Proof.Machine
end

