-- ==== Sys2Proof/Machine/Tick.lean ====
section
/-! DEFINITION. The periodic tick (45_host_ops.md R283): TICK. -/

namespace Sys2Proof.Machine

/-- FRAGTICK of `n` interfaces from `i` on (45_host_ops.md R283). -/
def fragTicks : Nat → Nat → State → State
  | 0, _, s => s
  | n + 1, i, s => fragTicks n (i + 1) (fragTick i s)

/-- `NOW <- NOW + 1 mod 2^32` (45_host_ops.md R283). -/
def advanceNow (s : State) : State := { s with now := s.now + 1 }

/-- TICK past the checks (45_host_ops.md R283). -/
def periodicTick (s : State) : State :=
  let s1 := tcpTick (fragTicks s.par.nIf 0 (advanceNow s))
  done (setR0 s1 s1.now) .ok

/-- TICK (45_host_ops.md R283). -/
def execTick (s : State) : Host.Outcome State Fault Refusal := .next (runCommand s true [] true periodicTick)

end Sys2Proof.Machine
end

