-- ==== Sys2Proof/Machine/Dispatch.lean ====
section
/-! DEFINITION. One arm per operation of 30_encoding.md R110. -/

namespace Sys2Proof.Machine

def exec (i : Instr) (s : State) : Host.Outcome State Fault Refusal :=
  match i with
  | .nop => Sys2Proof.Machine.execNop s
  | .csum => Sys2Proof.Machine.execCsum s
  | .csumx n => Sys2Proof.Machine.execCsumx n s
  | .csumul p l => Sys2Proof.Machine.execCsumul p l s
  | .iprx x => Sys2Proof.Machine.execIprx x s
  | .iptx x p => Sys2Proof.Machine.execIptx x p s
  | .fragtick x => Sys2Proof.Machine.execFragtick x s
  | .lookupt x => Sys2Proof.Machine.execLookupt x s
  | .lookupu x => Sys2Proof.Machine.execLookupu x s
  | .tcptick => Sys2Proof.Machine.execTcptick s
  | .lock => Sys2Proof.Machine.execLock s
  | .unlock => Sys2Proof.Machine.execUnlock s
  | .tick => Sys2Proof.Machine.execTick s
  | .crrd x r => Sys2Proof.Machine.execCrrd x r s
  | .crwr x r => Sys2Proof.Machine.execCrwr x r s
  | .skrd k f => Sys2Proof.Machine.execSkrd k f s
  | .seta x v => Sys2Proof.Machine.execSeta x v s
  | .geta x => Sys2Proof.Machine.execGeta x s
  | .drain q => Sys2Proof.Machine.execDrain q s
  | .sopen t => Sys2Proof.Machine.execSopen t s
  | .sbind k p => Sys2Proof.Machine.execSbind k p s
  | .slisten k b => Sys2Proof.Machine.execSlisten k b s
  | .sconnect k p => Sys2Proof.Machine.execSconnect k p s
  | .saccept k => Sys2Proof.Machine.execSaccept k s
  | .sshut k => Sys2Proof.Machine.execSshut k s
  | .sclose k => Sys2Proof.Machine.execSclose k s
  | .srecv k m => Sys2Proof.Machine.execSrecv k m s
  | .pshdr a b p l => Sys2Proof.Machine.execPshdr a b p l s
  | .ipdemux x d => Sys2Proof.Machine.execIpdemux x d s
  | .reasm x d => Sys2Proof.Machine.execReasm x d s
  | .ipfrag x t n l p a b y => Sys2Proof.Machine.execIpfrag x t n l p a b y s
  | .tcprx x a b y => Sys2Proof.Machine.execTcprx x a b y s
  | .tcpsClosed k x a b g => Sys2Proof.Machine.execTcpsClosed k x a b g s
  | .tcpsListen k x a b g => Sys2Proof.Machine.execTcpsListen k x a b g s
  | .tcpsSynSent k x a b g => Sys2Proof.Machine.execTcpsSynSent k x a b g s
  | .tcpsSynRcvd k x a b g => Sys2Proof.Machine.execTcpsSynRcvd k x a b g s
  | .tcpsEstablished k x a b g => Sys2Proof.Machine.execTcpsEstablished k x a b g s
  | .tcpsCloseWait k x a b g => Sys2Proof.Machine.execTcpsCloseWait k x a b g s
  | .tcpsLastAck k x a b g => Sys2Proof.Machine.execTcpsLastAck k x a b g s
  | .tcpsFinWait1 k x a b g => Sys2Proof.Machine.execTcpsFinWait1 k x a b g s
  | .tcpsFinWait2 k x a b g => Sys2Proof.Machine.execTcpsFinWait2 k x a b g s
  | .tcpsClosing k x a b g => Sys2Proof.Machine.execTcpsClosing k x a b g s
  | .tcpsTimeWait k x a b g => Sys2Proof.Machine.execTcpsTimeWait k x a b g s

end Sys2Proof.Machine
end

