-- ==== Sys2Proof/WellFormed.lean ====
section
/-! DEFINITION. Which terms of `Instr` the machine can be handed. The fields of a command word have exactly
the widths of 30_encoding.md R100, so every command is well formed (an index out of range is answered by
45_host_ops.md R282 when the command runs). The operands of an internal operation obey what its callers
guarantee. -/

namespace Sys2Proof

/-- A datagram the demultiplexer or the reassembly engine is handed: the header fits, and the length is the
declared total length (41_ip_admission.md R152, R153, R154, R165). -/
def datagramOk (d : Bytes) : Bool :=
  decide (5 ≤ Machine.ihl d) && decide (Machine.headerLen d ≤ d.length) &&
  decide (d.length = (Machine.be16 d 2).toNat)

/-- Most payload bytes of one datagram with a 20-byte header (41_ip_admission.md R170). -/
def maxPayload : Nat := 65515

/-- A TCP segment's payload fits an IPv4 datagram beside two 20-byte headers (30_encoding.md R90, R94). -/
def segmentOk (seg : Segment) : Bool := decide (seg.pay.length ≤ maxPayload - 20)

/-- Well-formed instructions. -/
def Instr.wf : Instr → Bool
  | .nop | .csum | .csumx _ | .csumul _ _ | .iprx _ | .iptx _ _ | .fragtick _ | .lookupt _ | .lookupu _
  | .tcptick | .lock | .unlock | .tick | .crrd _ _ | .crwr _ _ | .skrd _ _ | .seta _ _ | .geta _
  | .drain _ | .sopen _ | .sbind _ _ | .slisten _ _ | .sconnect _ _ | .saccept _ | .sshut _ | .sclose _
  | .srecv _ _ | .pshdr _ _ _ _ => true
  | .ipdemux _ d => datagramOk d && !Machine.isFragment (Machine.fragField d)
  | .reasm _ d => datagramOk d && Machine.isFragment (Machine.fragField d)
  | .ipfrag _ _ _ _ _ _ _ pay => decide (0 < pay.length) && decide (pay.length ≤ maxPayload)
  | .tcprx _ _ _ seg => decide (seg.length ≤ maxPayload)
  | .tcpsClosed _ _ _ _ seg | .tcpsListen _ _ _ _ seg | .tcpsSynSent _ _ _ _ seg
  | .tcpsSynRcvd _ _ _ _ seg | .tcpsEstablished _ _ _ _ seg | .tcpsCloseWait _ _ _ _ seg
  | .tcpsLastAck _ _ _ _ seg | .tcpsFinWait1 _ _ _ _ seg | .tcpsFinWait2 _ _ _ _ seg
  | .tcpsClosing _ _ _ _ seg | .tcpsTimeWait _ _ _ _ seg => segmentOk seg

/-- A host command (format CMD of 30_encoding.md R110), as against an internal operation (format INT). -/
def Instr.isCommand : Instr → Bool
  | .nop | .csum | .csumx _ | .csumul _ _ | .iprx _ | .iptx _ _ | .fragtick _ | .lookupt _ | .lookupu _
  | .tcptick | .lock | .unlock | .tick | .crrd _ _ | .crwr _ _ | .skrd _ _ | .seta _ _ | .geta _
  | .drain _ | .sopen _ | .sbind _ _ | .slisten _ _ | .sconnect _ _ | .saccept _ | .sshut _ | .sclose _
  | .srecv _ _ => true
  | .pshdr _ _ _ _ | .ipdemux _ _ | .reasm _ _ | .ipfrag _ _ _ _ _ _ _ _ | .tcprx _ _ _ _
  | .tcpsClosed _ _ _ _ _ | .tcpsListen _ _ _ _ _ | .tcpsSynSent _ _ _ _ _
  | .tcpsSynRcvd _ _ _ _ _ | .tcpsEstablished _ _ _ _ _ | .tcpsCloseWait _ _ _ _ _
  | .tcpsLastAck _ _ _ _ _ | .tcpsFinWait1 _ _ _ _ _ | .tcpsFinWait2 _ _ _ _ _
  | .tcpsClosing _ _ _ _ _ | .tcpsTimeWait _ _ _ _ _ => false

end Sys2Proof
end

