-- ==== Sys2Proof/Decode.lean ====
section
/-! DEFINITION. The decoder, total on every entry and rejecting by name, and after it the encoder
(30_encoding.md R100, R110 to R114). -/

namespace Sys2Proof

/-- Why an entry selects no operation of the block. -/
inductive DecodeError where
  /-- the `op` of a command word is none of the 27 command codes (30_encoding.md R111) -/
  | badCommand (op : Byte)
  /-- a protocol number whose handler is no operation of this block (30_encoding.md R113) -/
  | noOperation (number : Byte)
  /-- a reserved state code, 11 to 15 (30_encoding.md R114, 93_implementation_defined.md U6) -/
  | reservedState (code : BitVec 4)
deriving DecidableEq, Repr

/-- `op`, bits 31:24 of the command word (30_encoding.md R100). -/
def cmdOp (cmd : Word) : Byte := cmd.extractLsb' 24 8

/-- `x`, bits 23:16 of the command word (30_encoding.md R100). -/
def cmdX (cmd : Word) : Byte := cmd.extractLsb' 16 8

/-- `y`, bits 15:0 of the command word (30_encoding.md R100). -/
def cmdY (cmd : Word) : Half := cmd.extractLsb' 0 16

/-- The operation of a command word (30_encoding.md R110): selected by `op` alone. `y[7:0]` is the
protocol of `IPTX` (41_ip_admission.md R170). -/
def decodeCommand (cmd wdata : Word) : Except DecodeError Instr :=
  let x := cmdX cmd
  let y := cmdY cmd
  match (cmdOp cmd).toNat with
  | 0x00 => .ok .nop
  | 0x01 => .ok .csum
  | 0x02 => .ok (.csumx x)
  | 0x03 => .ok (.csumul x y)
  | 0x10 => .ok (.iprx x)
  | 0x12 => .ok (.iptx x (y.extractLsb' 0 8))
  | 0x21 => .ok (.fragtick x)
  | 0x30 => .ok (.lookupt x)
  | 0x31 => .ok (.lookupu x)
  | 0x41 => .ok .tcptick
  | 0x50 => .ok .lock
  | 0x51 => .ok .unlock
  | 0x52 => .ok .tick
  | 0x53 => .ok (.crrd x y)
  | 0x54 => .ok (.crwr x y)
  | 0x55 => .ok (.skrd x y)
  | 0x56 => .ok (.seta x wdata)
  | 0x57 => .ok (.geta x)
  | 0x58 => .ok (.drain x)
  | 0x60 => .ok (.sopen y)
  | 0x61 => .ok (.sbind x y)
  | 0x62 => .ok (.slisten x y)
  | 0x63 => .ok (.sconnect x y)
  | 0x64 => .ok (.saccept x)
  | 0x65 => .ok (.sshut x)
  | 0x66 => .ok (.sclose x)
  | 0x67 => .ok (.srecv x y)
  | _ => .error (.badCommand (cmdOp cmd))

/-- Selector FRAGSEL (30_encoding.md R112). -/
def selectFrag (fo : Half) (ifx : Byte) (d : Bytes) : Instr :=
  if Machine.isFragment fo then .reasm ifx d else .ipdemux ifx d

/-- Selector PROTO (30_encoding.md R113), as far as it selects an operation: `6`. -/
def selectProto (number ifx : Byte) (src dst : Word) (pay : Bytes) : Except DecodeError Instr :=
  if number = 6#8 then .ok (.tcprx ifx src dst pay) else .error (.noOperation number)

/-- Selector STATE (30_encoding.md R114). -/
def selectState (code : BitVec 4) (sock ifx : Byte) (src dst : Word) (seg : Segment) :
    Except DecodeError Instr :=
  match code.toNat with
  | 0 => .ok (.tcpsClosed sock ifx src dst seg)
  | 1 => .ok (.tcpsListen sock ifx src dst seg)
  | 2 => .ok (.tcpsSynSent sock ifx src dst seg)
  | 3 => .ok (.tcpsSynRcvd sock ifx src dst seg)
  | 4 => .ok (.tcpsEstablished sock ifx src dst seg)
  | 5 => .ok (.tcpsCloseWait sock ifx src dst seg)
  | 6 => .ok (.tcpsLastAck sock ifx src dst seg)
  | 7 => .ok (.tcpsFinWait1 sock ifx src dst seg)
  | 8 => .ok (.tcpsFinWait2 sock ifx src dst seg)
  | 9 => .ok (.tcpsClosing sock ifx src dst seg)
  | 10 => .ok (.tcpsTimeWait sock ifx src dst seg)
  | _ => .error (.reservedState code)

/-- The decoder. -/
def decode : Entry → Except DecodeError Instr
  | .command cmd wdata => decodeCommand cmd wdata
  | .fragsel fo ifx d => .ok (selectFrag fo ifx d)
  | .proto number ifx src dst pay => selectProto number ifx src dst pay
  | .state code sock ifx src dst seg => selectState code sock ifx src dst seg
  | .pshdr src dst proto len => .ok (.pshdr src dst proto len)
  | .ipfrag ifx tos id ttl proto src dst pay => .ok (.ipfrag ifx tos id ttl proto src dst pay)

/-- A command word from its three fields (30_encoding.md R117: `(op << 24) | (x << 16) | y`). -/
def commandWord (op x : Byte) (y : Half) : Word := (op ++ x : BitVec 16) ++ y

/-- The entry of a host command without `WDATA`. -/
def commandEntry (op x : Byte) (y : Half) : Entry := .command (commandWord op x y) 0#32

/-- The encoder: what selects an instruction, unnamed fields written 0 (30_encoding.md R100, R115). -/
def encode : Instr → Entry
  | .nop => commandEntry 0x00 0 0
  | .csum => commandEntry 0x01 0 0
  | .csumx n => commandEntry 0x02 n 0
  | .csumul p l => commandEntry 0x03 p l
  | .iprx i => commandEntry 0x10 i 0
  | .iptx i p => commandEntry 0x12 i (p.setWidth 16)
  | .fragtick i => commandEntry 0x21 i 0
  | .lookupt i => commandEntry 0x30 i 0
  | .lookupu i => commandEntry 0x31 i 0
  | .tcptick => commandEntry 0x41 0 0
  | .lock => commandEntry 0x50 0 0
  | .unlock => commandEntry 0x51 0 0
  | .tick => commandEntry 0x52 0 0
  | .crrd i r => commandEntry 0x53 i r
  | .crwr i r => commandEntry 0x54 i r
  | .skrd s f => commandEntry 0x55 s f
  | .seta i v => .command (commandWord 0x56 i 0) v
  | .geta i => commandEntry 0x57 i 0
  | .drain q => commandEntry 0x58 q 0
  | .sopen k => commandEntry 0x60 0 k
  | .sbind s p => commandEntry 0x61 s p
  | .slisten s b => commandEntry 0x62 s b
  | .sconnect s p => commandEntry 0x63 s p
  | .saccept s => commandEntry 0x64 s 0
  | .sshut s => commandEntry 0x65 s 0
  | .sclose s => commandEntry 0x66 s 0
  | .srecv s m => commandEntry 0x67 s m
  | .pshdr a b p l => .pshdr a b p l
  | .ipdemux i d => .fragsel (Machine.fragField d) i d
  | .reasm i d => .fragsel (Machine.fragField d) i d
  | .ipfrag i t n l p a b y => .ipfrag i t n l p a b y
  | .tcprx i a b y => .proto 6 i a b y
  | .tcpsClosed s i a b g => .state 0 s i a b g
  | .tcpsListen s i a b g => .state 1 s i a b g
  | .tcpsSynSent s i a b g => .state 2 s i a b g
  | .tcpsSynRcvd s i a b g => .state 3 s i a b g
  | .tcpsEstablished s i a b g => .state 4 s i a b g
  | .tcpsCloseWait s i a b g => .state 5 s i a b g
  | .tcpsLastAck s i a b g => .state 6 s i a b g
  | .tcpsFinWait1 s i a b g => .state 7 s i a b g
  | .tcpsFinWait2 s i a b g => .state 8 s i a b g
  | .tcpsClosing s i a b g => .state 9 s i a b g
  | .tcpsTimeWait s i a b g => .state 10 s i a b g

/-- The bytes handed over with a bare selector value: a 20-byte header of zeros that holds `fo`. -/
def bareDatagram (fo : Half) : Bytes := Machine.overwrite (List.replicate 20 0#8) 6 (Machine.enc16 fo)

/-- The segment handed over with a bare selector value: every field 0, no option, no payload. -/
def bareSegment : Segment := ⟨0, 0, 0, 0, 0, 0, none, []⟩

/-- The entry that a row of the opcode table with `nbits` bits and value `w` stands for: 32 bits or more, a
command word with `WDATA` after it; 16 bits, selector FRAGSEL; 8 bits holding 6, selector PROTO; 8 or 4
bits otherwise, selector STATE in the low four bits. Every operand the row gives no bits is zero (log 17). -/
def tableEntry (nbits w : Nat) : Option Entry :=
  if 32 ≤ nbits then some (.command (BitVec.ofNat 32 w) (BitVec.ofNat 32 (w / 2 ^ 32)))
  else if nbits = 16 then some (.fragsel (BitVec.ofNat 16 w) 0 (bareDatagram (BitVec.ofNat 16 w)))
  else if nbits = 8 ∧ w = 6 then some (.proto 6 0 0 0 [])
  else if nbits = 8 ∨ nbits = 4 then some (.state (BitVec.ofNat 4 w) 0 0 0 0 bareSegment)
  else none

/-- The instruction the decoder reads from the bits of an opcode-table row. -/
def decodeTableWord (nbits w : Nat) : Option Instr :=
  match tableEntry nbits w with
  | none => none
  | some e =>
    match decode e with
    | .ok i => some i
    | .error _ => none

end Sys2Proof
end

