-- ==== Sys2Proof/Machine/Port.lean ====
section
/-! DEFINITION. The command port (10_state.md R23, 70_reset_and_hazards.md R351, R352): what one step takes from
it, and what stands for a word the decoder rejects. -/

namespace Sys2Proof.Machine

/-- What one step has to do after it has looked at the port. -/
inductive Fetched where
  /-- nothing to run: the block waits, or the input itself was the whole happening -/
  | settled (s : State)
  /-- this entry is to be decoded and run -/
  | entry (e : Entry) (s : State)
deriving DecidableEq, Repr

/-- One input taken from the port, the output record of the operation before it forgotten (log 3, 8). -/
def taking (s : State) (rest : List Input) : State := { s with port := rest, out := .none }

/-- The command latch (10_state.md R23). -/
def latched (cmd : Word) (tid : Byte) (s : State) : State := { s with cmd := cmd, tid := tid }

/-- The next input of the port: a command is latched, a store lands in buffer memory, a reset is obeyed; with
nothing presented the block waits (70_reset_and_hazards.md R340, R351; log 3, 4, 24). -/
def fetch (s : State) : Fetched :=
  match s.port with
  | [] => .settled s
  | .command cmd tid wdata :: rest => .entry (.command cmd wdata) (latched cmd tid (taking s rest))
  | .store addr data :: rest =>
    let t := taking s rest
    .settled (setMem t (memStore t.mem addr data))
  | .reset :: rest => .settled (afterReset (taking s rest))
  | .internal e :: rest => .entry e (taking s rest)

/-- What the block does with a word the decoder rejects: an illegal command is counted (30_encoding.md R111); a
bare selector value that selects nothing is the model's own fault (log 15). -/
def rejected (r : DecodeError) (s : State) : Host.Outcome State Fault Refusal :=
  match r with
  | .badCommand _ => .next (illegalCommand s)
  | .noOperation _ | .reservedState _ => .fault .noOperation

/-- The input that presents the bits of an opcode-table row (log 3, 17): a command word with the task id the
latch holds, or a bare selector value. -/
def tableInput (s : State) (nbits w : Nat) : Option Input :=
  match tableEntry nbits w with
  | some (.command cmd wdata) => some (.command cmd s.tid wdata)
  | some e => some (.internal e)
  | none => none

/-- That input put before everything else the port holds. -/
def presented (s : State) (nbits w : Nat) : State :=
  match tableInput s nbits w with
  | some x => { s with port := x :: s.port }
  | none => s

end Sys2Proof.Machine
end

