-- ==== Sys2Proof/Machine/Step.lean ====
section
/-! DEFINITION. One step: one input of the port, taken to its end (10_state.md R23, 70_reset_and_hazards.md
R351). -/

namespace Sys2Proof.Machine

/-- The step of the machine. -/
def step (s : State) : Host.Outcome State Fault Refusal :=
  match fetch s with
  | .settled t => .next t
  | .entry e t =>
    match decode e with
    | .ok i => exec i t
    | .error r => rejected r t

/-- `s` with the instruction of an opcode-table row presented as the next input (log 3, 17). -/
def State.withFetchWord (s : State) (nbits w : Nat) : State := presented s nbits w

end Sys2Proof.Machine
end

