-- ==== Sys2Proof/Safety.lean ====
section
/-! DEFINITION. What a safe run is, in the terms of Host/Core.lean: every step answers a next state
(60_exceptions.md R323). -/

namespace Sys2Proof.Machine

/-- The outcome goes on: neither a fault nor a refusal. -/
def goesOn (o : Host.Outcome State Fault Refusal) : Bool :=
  match o with
  | .next _ => true
  | .fault _ | .refused _ => false

/-- Nothing in the port enters an internal operation alone: what a host can present (70_reset_and_hazards.md
R351, R352; log 4). -/
def Input.fromHost : Input → Bool
  | .command _ _ _ | .store _ _ | .reset => true
  | .internal _ => false

/-- The first `n` steps from `s` all answer a next state. -/
def safeFor : Nat → State → Bool
  | 0, _ => true
  | n + 1, s =>
    match step s with
    | .next t => safeFor n t
    | .fault _ | .refused _ => false

end Sys2Proof.Machine
end

