-- ==== Sys2Proof/Certificates/Slice0/Obligations.lean ====
section
/-! DEFINITION. The statements for the provers, in the order of OBLIGATIONS.json, and the words they use. -/

namespace Sys2Proof.Claims

open Machine

/-! Words of the statements. -/

/-- The 27 command codes of 30_encoding.md R110. -/
def commandCodes : List Byte :=
  [0x00, 0x01, 0x02, 0x03, 0x10, 0x12, 0x21, 0x30, 0x31, 0x41, 0x50, 0x51, 0x52, 0x53, 0x54, 0x55, 0x56,
   0x57, 0x58, 0x60, 0x61, 0x62, 0x63, 0x64, 0x65, 0x66, 0x67]

/-- `CNT[c]` increased by one, mod 2^32. -/
def bump (cnt : Vector Word 256) (c : Cause) : Vector Word 256 :=
  cnt.set c.code.toNat (cnt[c.code.toNat]'c.code.isLt + 1) c.code.isLt

/-- `s` with `ST` and one counter written (60_exceptions.md R312). -/
def dropped (s : State) (c : Cause) : State := { s with st := c.code, cnt := bump s.cnt c }

/-- A refusal: `R0 <- 0`, `ST` and one counter written, nothing else (45_host_ops.md R282). -/
def refused (s : State) (c : Cause) : State := { dropped s c with r0 := 0 }

/-- The commands that need the lock (45_host_ops.md R282). -/
def needsLock : Instr → Bool
  | .nop | .lock | .unlock | .seta _ _ | .geta _ | .csum | .csumx _ | .csumul _ _ => false
  | .iprx _ | .iptx _ _ | .fragtick _ | .lookupt _ | .lookupu _ | .tcptick | .tick | .crrd _ _ | .crwr _ _
  | .skrd _ _ | .drain _ | .sopen _ | .sbind _ _ | .slisten _ _ | .sconnect _ _ | .saccept _ | .sshut _
  | .sclose _ | .srecv _ _ => true
  | .pshdr _ _ _ _ | .ipdemux _ _ | .reasm _ _ | .ipfrag _ _ _ _ _ _ _ _ | .tcprx _ _ _ _
  | .tcpsClosed _ _ _ _ _ | .tcpsListen _ _ _ _ _ | .tcpsSynSent _ _ _ _ _ | .tcpsSynRcvd _ _ _ _ _
  | .tcpsEstablished _ _ _ _ _ | .tcpsCloseWait _ _ _ _ _ | .tcpsLastAck _ _ _ _ _
  | .tcpsFinWait1 _ _ _ _ _ | .tcpsFinWait2 _ _ _ _ _ | .tcpsClosing _ _ _ _ _
  | .tcpsTimeWait _ _ _ _ _ => false

/-- The operand registers an operation names (30_encoding.md R110). -/
def operandRegs : Instr → List (Fin 8)
  | .csum | .iprx _ | .sbind _ _ => [0, 1]
  | .csumx _ | .lookupt _ | .lookupu _ | .sconnect _ _ => [0, 1, 2]
  | .csumul _ _ => [0, 1, 2, 3, 4, 5]
  | .iptx _ _ => [0, 1, 2, 3, 4, 5, 6]
  | .crwr _ _ => [0]
  | .saccept _ => [1]
  | .geta i => if h : i.toNat < 8 then [⟨i.toNat, h⟩] else []
  | .nop | .lock | .unlock | .seta _ _ | .fragtick _ | .tcptick | .tick | .crrd _ _ | .skrd _ _ | .drain _
  | .sopen _ | .slisten _ _ | .sshut _ | .sclose _ | .srecv _ _
  | .pshdr _ _ _ _ | .ipdemux _ _ | .reasm _ _ | .ipfrag _ _ _ _ _ _ _ _ | .tcprx _ _ _ _
  | .tcpsClosed _ _ _ _ _ | .tcpsListen _ _ _ _ _ | .tcpsSynSent _ _ _ _ _ | .tcpsSynRcvd _ _ _ _ _
  | .tcpsEstablished _ _ _ _ _ | .tcpsCloseWait _ _ _ _ _ | .tcpsLastAck _ _ _ _ _
  | .tcpsFinWait1 _ _ _ _ _ | .tcpsFinWait2 _ _ _ _ _ | .tcpsClosing _ _ _ _ _
  | .tcpsTimeWait _ _ _ _ _ => []

/-- The numbers of the registers that belong to no interface (10_state.md R57). -/
def globalReg (y : Half) : Prop := y.toNat ≤ 4 ∨ (0x1000 ≤ y.toNat ∧ y.toNat < 0x1100)

/-- The numbers of the registers of an interface (10_state.md R57). -/
def ifaceReg (p : Params) (y : Half) : Prop :=
  y.toNat = 0x10 ∨ y.toNat = 0x11 ∨
  (∃ k, k < p.nAddr ∧ (y.toNat = 0x20 + 4 * k ∨ y.toNat = 0x21 + 4 * k ∨ y.toNat = 0x22 + 4 * k)) ∨
  (∃ k, k < p.nMcast ∧ y.toNat = 0x100 + k)

/-- The value `v` is legal for the writable register `y` (10_state.md R57). -/
def legalValue (p : Params) (y : Half) (v : Word) : Prop :=
  (y.toNat = 0x10 → 68 ≤ v.toNat ∧ v.toNat ≤ 65535) ∧
  (∀ k, k < p.nAddr → y.toNat = 0x21 + 4 * k → v.toNat ≤ 32) ∧
  (∀ k, k < p.nAddr → y.toNat = 0x22 + 4 * k → v.toNat ≤ 2) ∧
  (∀ k, k < p.nMcast → y.toNat = 0x100 + k → v = 0 ∨ v.extractLsb' 28 4 = 0xE#4)

/-- The index and value tests of 45_host_ops.md R282 (4), per operation as its own rule gives them. -/
def operandsLegal (s : State) : Instr → Prop
  | .iprx i | .iptx i _ | .fragtick i | .lookupt i | .lookupu i => i.toNat < s.par.nIf
  | .crrd i y => globalReg y ∨ (ifaceReg s.par y ∧ i.toNat < s.par.nIf)
  | .crwr i y => ifaceReg s.par y ∧ i.toNat < s.par.nIf ∧ legalValue s.par y (s.reg 0)
  | .skrd k y => k.toNat < s.par.nSock ∧ y.toNat ≤ 29
  | .seta i _ | .geta i => i.toNat ≤ 7
  | .drain q => q = 0 ∨ q = 1 ∨ q = 2 ∨ q = 3 ∨ q = 0xFF
  | .sopen y => y = 1 ∨ y = 2 ∨ y = 3
  | .sbind k _ => k.toNat < s.par.nSock ∧ (s.reg 1 = 0xFF ∨ (s.reg 1).toNat < s.par.nIf)
  | .slisten k y => k.toNat < s.par.nSock ∧ 1 ≤ y.toNat ∧ y.toNat ≤ s.par.synqMax
  | .sconnect k y => k.toNat < s.par.nSock ∧ y ≠ 0 ∧ s.reg 0 ≠ 0 ∧ (s.reg 2).toNat < s.par.nIf
  | .saccept k | .sshut k | .sclose k => k.toNat < s.par.nSock
  | .srecv k y => k.toNat < s.par.nSock ∧ 1 ≤ y.toNat
  | .nop | .lock | .unlock | .csum | .csumx _ | .csumul _ _ | .tcptick | .tick
  | .pshdr _ _ _ _ | .ipdemux _ _ | .reasm _ _ | .ipfrag _ _ _ _ _ _ _ _ | .tcprx _ _ _ _
  | .tcpsClosed _ _ _ _ _ | .tcpsListen _ _ _ _ _ | .tcpsSynSent _ _ _ _ _ | .tcpsSynRcvd _ _ _ _ _
  | .tcpsEstablished _ _ _ _ _ | .tcpsCloseWait _ _ _ _ _ | .tcpsLastAck _ _ _ _ _
  | .tcpsFinWait1 _ _ _ _ _ | .tcpsFinWait2 _ _ _ _ _ | .tcpsClosing _ _ _ _ _
  | .tcpsTimeWait _ _ _ _ _ => True

/-- A command passes the checks of 45_host_ops.md R282: the lock, the registers, the values. -/
def ready (i : Instr) (s : State) : Prop :=
  (needsLock i = true → s.lock = .held s.tid) ∧ (∀ r ∈ operandRegs i, s.a[r] ≠ none) ∧ operandsLegal s i

/-- The table sizes are those of the parameters (10_state.md R27, R29). -/
def sized (s : State) : Prop := s.ifs.length = s.par.nIf ∧ s.socks.length = s.par.nSock

/-- What every internal operation and every socket operation leaves alone: operand registers, latch, lock, time,
parameters, buffer memory, what is presented. -/
def sameContext (s t : State) : Prop :=
  t.a = s.a ∧ t.cmd = s.cmd ∧ t.tid = s.tid ∧ t.lock = s.lock ∧ t.now = s.now ∧ t.par = s.par ∧
  t.mem = s.mem ∧ t.port = s.port

/-- Every interface record is unchanged but for its identification counter. -/
def sameIfaces (s t : State) : Prop :=
  t.ifs.length = s.ifs.length ∧ ∀ j, { t.iface j with ipId := 0 } = { s.iface j with ipId := 0 }

/-- Every counter is unchanged but `CNT[c]`, which is one higher, and the two of the send path (0x28, 0x29). -/
def countsOnly (c : Option Cause) (s t : State) : Prop :=
  ∀ b : Byte, b ≠ 0x28 → b ≠ 0x29 →
    t.cnt[b.toNat]'b.isLt = s.cnt[b.toNat]'b.isLt + (if c.map Cause.code = some b then 1 else 0)

/-- The frame of an operation that writes the records `is` only and counts `c` (or nothing): the context, the other
records, the interface records, the reports and hand-offs, the output record and the counters. -/
def tcpFrame (is : List Nat) (c : Option Cause) (s t : State) : Prop :=
  sameContext s t ∧ t.socks.length = s.socks.length ∧ (∀ j, j ∉ is → t.sock j = s.sock j) ∧ sameIfaces s t ∧
  t.icmpq = s.icmpq ∧ t.upq = s.upq ∧ t.out = s.out ∧ countsOnly c s t

/-- That frame, and no event is signalled. -/
def quiet (is : List Nat) (c : Option Cause) (s t : State) : Prop := tcpFrame is c s t ∧ t.evq = s.evq

/-- The bytes of a segment: the header of 44_tcp_fsm.md R232, R233 with the upper-layer checksum of
40_checksum.md R137 in its field. -/
def wire (p : Params) (src dst : Word) (g : OutSegment) : Bytes :=
  let t (c : Half) : Bytes :=
    enc16 g.srcPort ++ enc16 g.dstPort ++ enc32 g.seq ++ enc32 g.ack ++
      [BitVec.ofNat 8 ((5 + g.opt.length / 4) * 16), g.flags.setWidth 8] ++ enc16 g.wnd ++ enc16 c ++
      [0x00#8, 0x00#8] ++ g.opt
  let ph := enc32 src ++ enc32 dst ++ [0x00#8, 0x06#8] ++ enc16 (BitVec.ofNat 16 (t 0).length)
  t (cpl (fold ((osum p ph).toNat + (osum p (t 0)).toNat)))

/-- The IPv4 header of 41_ip_admission.md R171 in front of a payload. -/
def packet (p : Params) (tos : Byte) (id fo : Half) (ttl proto : Byte) (src dst : Word) (pay : Bytes) : Bytes :=
  let h (c : Half) : Bytes :=
    [0x45#8, tos] ++ enc16 (BitVec.ofNat 16 (20 + pay.length)) ++ enc16 id ++ enc16 fo ++ [ttl, proto] ++
      enc16 c ++ enc32 src ++ enc32 dst
  h (checksum p (h 0)) ++ pay

/-- Exactly one segment is handed to the link, `s` being the state that asks. With no MTU configured nothing is
built and 0x28 is counted. Where the interface carries the segment whole, the identification counter advances, and
`TXQ` gains this one entry if the link accepts it; if the link refuses it 0x29 is counted. -/
def oneSegment (s t : State) (ifx : Byte) (src dst : Word) (g : OutSegment) : Prop :=
  let f := s.iface ifx.toNat
  let w := wire s.par src dst g
  let e : TxEntry := ⟨ifx, dst, s.par.defaultTtl, s.par.defaultTos,
    packet s.par s.par.defaultTos f.ipId 0 s.par.defaultTtl 6 src dst w⟩
  (f.mtu = 0 → t.txq = s.txq ∧ t.ifs = s.ifs ∧ t.cnt[0x28] = s.cnt[0x28] + 1 ∧ t.cnt[0x29] = s.cnt[0x29]) ∧
  (20 + w.length ≤ f.mtu.toNat →
    t.ifs = s.ifs.set ifx.toNat { f with ipId := f.ipId + 1 } ∧ t.cnt[0x28] = s.cnt[0x28] ∧
    if linkAnswer s then t.txq = s.txq ++ [e] ∧ t.cnt[0x29] = s.cnt[0x29]
    else t.txq = s.txq ∧ t.cnt[0x29] = s.cnt[0x29] + 1)

/-- Nothing is handed to the link. -/
def noSegment (s t : State) : Prop :=
  t.txq = s.txq ∧ t.ifs = s.ifs ∧ t.cnt[0x28] = s.cnt[0x28] ∧ t.cnt[0x29] = s.cnt[0x29]

/-- The segment of record `k` with the given flags, numbers and window (44_tcp_fsm.md R232). -/
def segmentFrom (p : Params) (k : Sock) (flags : BitVec 6) (seq ack : Word) : OutSegment :=
  ⟨k.localPort, k.remotePort, seq, ack, flags, k.rcvWnd,
    if flags &&& flagSYN ≠ 0 then [0x02#8, 0x04#8] ++ enc16 p.localMss else []⟩

/-- The acknowledgement of record `k` (44_tcp_fsm.md R231). -/
def ackOf (p : Params) (k : Sock) : OutSegment := segmentFrom p k flagACK k.sndNxt k.rcvNxt

/-- The reset that answers a segment (44_tcp_fsm.md R233). -/
def resetTo (seg : Segment) : OutSegment :=
  if has seg flagACK then ⟨seg.dstPort, seg.srcPort, seg.ack, 0, flagRST, 0, []⟩
  else ⟨seg.dstPort, seg.srcPort, 0, seg.seq + BitVec.ofNat 32 (segLen seg), flagRST ||| flagACK, 0, []⟩

/-- A segment is acceptable to a record (44_tcp_fsm.md R225). -/
def inWindow (k : Sock) (seg : Segment) : Prop :=
  let l := BitVec.ofNat 32 (segLen seg)
  let e := k.rcvNxt + k.rcvWnd.setWidth 32
  if segLen seg = 0 then
    if k.rcvWnd = 0 then seg.seq = k.rcvNxt else seqGE seg.seq k.rcvNxt = true ∧ seqLT seg.seq e = true
  else
    k.rcvWnd ≠ 0 ∧ seqLT seg.seq e = true ∧ seqGT (seg.seq + l) k.rcvNxt = true

/-- A record that has reached CLOSED (44_tcp_fsm.md R234): kept for an application that holds it, recycled
otherwise. That a kept record still holds its `ifx` is the model's choice (log 27). -/
def closedFrom (byReset : Bool) (k : Sock) : Sock :=
  if k.owned then
    { k with
      state := .closed, t2msl := ⟨false, 0⟩, tFw2 := ⟨false, 0⟩, ackPending := false, ooo := []
      resetFlag := byReset || k.resetFlag }
  else Sock.reset

/-- A record that has reached TIME-WAIT at tick `now` (44_tcp_fsm.md R235). -/
def waitFrom (now : Word) (k : Sock) : Sock :=
  { k with state := .timeWait, released := true, ooo := [], tFw2 := ⟨false, 0⟩, t2msl := ⟨true, now⟩ }

/-- A record after the acknowledgement and window of a segment (44_tcp_fsm.md R228). -/
def ackedBy (seg : Segment) (k : Sock) : Sock :=
  { k with
    sndUna := seg.ack, sndWnd := seg.wnd
    maxSndWnd := if k.maxSndWnd.toNat < seg.wnd.toNat then seg.wnd else k.maxSndWnd }

/-- The indices an internal operation is called with (45_host_ops.md R282, 44_tcp_fsm.md R220). -/
def indexed (s : State) (sock ifx : Byte) : Prop :=
  ifx.toNat < s.par.nIf ∧ sock.toNat < s.par.nSock ∧ sized s

/-- The seven state operations that begin with the three checks of 44_tcp_fsm.md R237. -/
def synchronizedOps (sock ifx : Byte) (src dst : Word) (seg : Segment) : List Instr :=
  [.tcpsSynRcvd sock ifx src dst seg, .tcpsEstablished sock ifx src dst seg,
   .tcpsCloseWait sock ifx src dst seg, .tcpsLastAck sock ifx src dst seg,
   .tcpsFinWait1 sock ifx src dst seg, .tcpsFinWait2 sock ifx src dst seg, .tcpsClosing sock ifx src dst seg]

/-- The four that go on with `ackProc` and the payload (44_tcp_fsm.md R244, R245, R247, R248). -/
def dataOps (sock ifx : Byte) (src dst : Word) (seg : Segment) : List Instr :=
  [.tcpsEstablished sock ifx src dst seg, .tcpsCloseWait sock ifx src dst seg,
   .tcpsFinWait1 sock ifx src dst seg, .tcpsFinWait2 sock ifx src dst seg]

/-- All eleven. -/
def stateOps (sock ifx : Byte) (src dst : Word) (seg : Segment) : List Instr :=
  [.tcpsClosed sock ifx src dst seg, .tcpsListen sock ifx src dst seg, .tcpsSynSent sock ifx src dst seg,
   .tcpsTimeWait sock ifx src dst seg] ++ synchronizedOps sock ifx src dst seg

/-- The candidate test of 43_socket_lookup.md R211, R214 without the type. -/
def endpointFits (k : Sock) (ifx : Byte) (src dst : Word) (dstPort : Half) : Prop :=
  (k.ifBound = 0xFF ∨ k.ifBound = ifx) ∧ k.localPort ≠ 0 ∧ k.localPort = dstPort ∧
  (k.localAddr = .unspec ∨ k.localAddr = .v4 0 ∨ k.localAddr = .v4 dst) ∧
  (k.remoteAddr = .unspec ∨ k.remoteAddr = .v4 0 ∨ k.remoteAddr = .v4 src)

/-- Position `p` lies in hole `h`. -/
def inHole (h : Hole) (p : Nat) : Prop :=
  h.first ≤ p ∧ match h.last with
    | .fin n => p < n
    | .inf => True

/-- The ranges `[first, last)` and the hole overlap (42_frag_reassembly.md R190). -/
def overlaps (first last : Nat) (h : Hole) : Prop :=
  h.first < last ∧ match h.last with
    | .fin n => first < n
    | .inf => True

/-- The key of a slot is the key of a fragment (42_frag_reassembly.md R185, R187). -/
def keyIs (f : Slot) (d : Bytes) : Prop :=
  f.src = be32 d 12 ∧ f.dst = be32 d 16 ∧ f.id = be16 d 4 ∧ f.proto = byteAt d 9

/-- Broadcast for an interface (41_ip_admission.md R156). -/
def broadcastOn (f : Iface) (a : Word) : Prop :=
  a = 0xFFFFFFFF ∨ ∃ e ∈ f.addr, e.status ≠ .invalid ∧ 1 ≤ e.plen.toNat ∧ e.plen.toNat ≤ 30 ∧
    a = e.a ||| (0xFFFFFFFF#32 >>> e.plen.toNat)

/-- Multicast (10_state.md R26). -/
def multicast (a : Word) : Prop := a.extractLsb' 28 4 = 0xE#4

/-- The entry of least index that holds an address (41_ip_admission.md R156). -/
def ownedBy (f : Iface) (a : Word) (e : AddrEntry) : Prop :=
  ∃ l r, f.addr = l ++ e :: r ∧ e.status ≠ .invalid ∧ e.a = a ∧ ∀ x ∈ l, x.status = .invalid ∨ x.a ≠ a

/-- The destination is this host's (41_ip_admission.md R157): an own address that is not tentative, or, where no
entry holds the address, broadcast or a joined group. -/
def localTo (f : Iface) (a : Word) : Prop :=
  (∃ e, ownedBy f a e ∧ e.status ≠ .tentative) ∨
  ((¬ ∃ e, ownedBy f a e) ∧ (broadcastOn f a ∨ (multicast a ∧ a ∈ f.mcast)))

/-- A packet passes steps 1 to 4 of the admission pipeline (41_ip_admission.md R151 to R155). -/
def wellMade (f : Iface) (p : Bytes) : Prop :=
  20 ≤ p.length ∧ byteAt p 0 >>> 4 = 4 ∧ 5 ≤ ihl p ∧ headerLen p ≤ (be16 p 2).toNat ∧
  (be16 p 2).toNat ≤ p.length ∧ ¬ broadcastOn f (be32 p 12) ∧ ¬ multicast (be32 p 12)

/-- What has been presented is what a host can present (70_reset_and_hazards.md R352). -/
def hostOnly (s : State) : Prop := ∀ x ∈ s.port, x.fromHost = true

/-- A reassembly slot (10_state.md R40, R43): in use, it has a hole and its byte strings have their lengths;
free, every field has its reset value. -/
def slotInv (f : Slot) : Prop :=
  (f.inUse = true → f.holes ≠ [] ∧ f.data.length = f.dataLen ∧ f.hdr.length = f.hlen.toNat) ∧
  (f.inUse = false → f = Slot.reset)

/-- An interface: the sizes of its tables, its slots, and no two slots in use with one key (10_state.md R27, R43). -/
def ifaceInv (p : Params) (f : Iface) : Prop :=
  f.addr.length = p.nAddr ∧ f.mcast.length = p.nMcast ∧ f.frag.length = p.nFrag ∧
  (∀ x ∈ f.frag, slotInv x) ∧
  f.frag.Pairwise fun x y =>
    x.inUse = true → y.inUse = true → ¬ (x.src = y.src ∧ x.dst = y.dst ∧ x.id = y.id ∧ x.proto = y.proto)

/-- The tables have the sizes the parameters give, and every interface is sound. -/
def tablesInv (s : State) : Prop := sized s ∧ ∀ f ∈ s.ifs, ifaceInv s.par f

/-- How far `sndNxt` may be ahead of `sndUna`: our SYN, and our FIN once it is sent (10_state.md R32). -/
def sentBound : TcpState → Nat
  | .closed | .listen => 2 ^ 32
  | .synSent | .synRcvd | .established | .closeWait => 1
  | .lastAck | .finWait1 | .finWait2 | .closing | .timeWait => 2

/-- The states in which bytes can wait out of order. -/
def holdsOoo : TcpState → Bool
  | .established | .closeWait | .lastAck | .finWait1 | .finWait2 | .closing => true
  | .closed | .listen | .synSent | .synRcvd | .timeWait => false

/-- The out-of-order store: empty where `TCP_OOO` is drop, keys rising, every key in the window (10_state.md R37). -/
def oooInv (p : Params) (k : Sock) : Prop :=
  (p.tcpOoo = .drop → k.ooo = []) ∧ k.ooo.Pairwise (fun x y => x.1 < y.1) ∧
  ∀ x ∈ k.ooo, (x.1 - k.rcvNxt).toNat < k.rcvWnd.toNat

/-- A connection record: a free record is at reset (10_state.md R31); only a stream record leaves CLOSED; the
backlog is bounded and belongs to listeners (R35); addresses have length 0 or 4 (93_implementation_defined.md U15);
what is received and the window never exceed `RX_WND`, and every byte held out of order lies in the window
(R37); `sndNxt` is at most our SYN and FIN ahead of `sndUna` (R32). -/
def sockInv (p : Params) (k : Sock) : Prop :=
  (k.type = .unused → k = Sock.reset) ∧
  (k.type ≠ .stream → k.state = .closed) ∧
  (k.state = .listen → 1 ≤ k.synqMax.toNat ∧ k.synqMax.toNat ≤ p.synqMax ∧ k.synq.length ≤ k.synqMax.toNat) ∧
  (k.state ≠ .listen → k.synqMax = 0 ∧ k.synq = []) ∧
  k.localAddr.len ≤ 4 ∧ k.remoteAddr.len ≤ 4 ∧
  (∀ e ∈ k.synq, e.srcAddr.len = 4 ∧ e.destAddr.len = 4) ∧
  k.rxq.length + k.rcvWnd.toNat ≤ p.rxWnd.toNat ∧
  (holdsOoo k.state = false → k.ooo = []) ∧
  oooInv p k ∧
  (k.state = .established ∨ k.state = .finWait1 ∨ k.state = .finWait2 → ∀ x ∈ k.ooo, x.1 ≠ k.rcvNxt) ∧
  (k.sndNxt - k.sndUna).toNat ≤ sentBound k.state

/-- Every connection record is sound. -/
def socksInv (s : State) : Prop := ∀ k ∈ s.socks, sockInv s.par k

/-- The state changes one step can make to one record: the rows of 44_tcp_fsm.md R256, closed under the two
compositions its rules name (R243, R247), and a record that is released or newly accepted. -/
def transition : TcpState → TcpState → Bool
  | .closed, .closed | .closed, .listen | .closed, .synSent | .closed, .synRcvd => true
  | .listen, .listen | .listen, .closed => true
  | .synSent, .synSent | .synSent, .established | .synSent, .synRcvd | .synSent, .closed => true
  | .synRcvd, .synRcvd | .synRcvd, .established | .synRcvd, .closeWait | .synRcvd, .finWait1
  | .synRcvd, .closed => true
  | .established, .established | .established, .closeWait | .established, .finWait1
  | .established, .closed => true
  | .closeWait, .closeWait | .closeWait, .lastAck | .closeWait, .closed => true
  | .lastAck, .lastAck | .lastAck, .closed => true
  | .finWait1, .finWait1 | .finWait1, .finWait2 | .finWait1, .closing | .finWait1, .timeWait
  | .finWait1, .closed => true
  | .finWait2, .finWait2 | .finWait2, .timeWait | .finWait2, .closed => true
  | .closing, .closing | .closing, .timeWait | .closing, .closed => true
  | .timeWait, .timeWait | .timeWait, .closed => true
  | _, _ => false

/-- The thirty fields of `SKRD`, in order (10_state.md R58). -/
def fieldTable (k : Sock) : List Word :=
  [k.type.code.setWidth 32, if k.owned then 1 else 0, k.ifBound.setWidth 32, k.localAddr.word,
   k.localPort.setWidth 32, k.remoteAddr.word, k.remotePort.setWidth 32, k.state.code.setWidth 32, k.iss,
   k.irs, k.sndUna, k.sndNxt, k.rcvNxt, k.sndWnd.setWidth 32, k.maxSndWnd.setWidth 32,
   k.rcvWnd.setWidth 32, k.mss.setWidth 32, k.rto, if k.t2msl.armed then 1 else 0, k.t2msl.start,
   if k.tFw2.armed then 1 else 0, k.tFw2.start, k.synqMax.setWidth 32, BitVec.ofNat 32 k.synq.length,
   BitVec.ofNat 32 k.rxq.length, BitVec.ofNat 32 k.ooo.length, if k.ackPending then 1 else 0,
   if k.resetFlag then 1 else 0, if k.released then 1 else 0, k.ifx.setWidth 32]

/-- A record with the acknowledgement and window of a segment taken, if it is not old (44_tcp_fsm.md R228). -/
def afterAck (seg : Segment) (k : Sock) : Sock := if seqGE seg.ack k.sndUna then ackedBy seg k else k

/-- A record in FIN-WAIT-2 at tick `now`, our FIN being acknowledged by a segment (44_tcp_fsm.md R247). -/
def finAckedBy (now : Word) (seg : Segment) (k : Sock) : Sock :=
  { afterAck seg k with state := .finWait2, tFw2 := ⟨true, now⟩ }

/-- The bytes of a segment's payload that come from `rcvNxt` on and fit the window (44_tcp_fsm.md R229). -/
def freshBytes (k : Sock) (seg : Segment) : Bytes :=
  (seg.pay.drop (k.rcvNxt - seg.seq).toNat).take k.rcvWnd.toNat

/-- `run` is what waits without a gap from sequence number `q` on (44_tcp_fsm.md R229). -/
def waitsFrom (k : Sock) (q : Word) (run : Bytes) : Prop :=
  (∀ j < run.length, (q + BitVec.ofNat 32 j, byteAt run j) ∈ k.ooo) ∧
  ∀ x ∈ k.ooo, x.1 ≠ q + BitVec.ofNat 32 run.length

/-- A record that has received `b`, the bytes it held under their numbers among them (44_tcp_fsm.md R229). -/
def takenIn (b : Bytes) (k : Sock) : Sock :=
  { k with
    rxq := k.rxq ++ b, rcvNxt := k.rcvNxt + BitVec.ofNat 32 b.length
    rcvWnd := k.rcvWnd - BitVec.ofNat 16 b.length
    ooo := k.ooo.filter fun x => decide (b.length ≤ (x.1 - k.rcvNxt).toNat) }

/-- A segment passes the three checks of 44_tcp_fsm.md R225 to R227. -/
def passes (k : Sock) (seg : Segment) : Prop :=
  inWindow k seg ∧ has seg flagRST = false ∧ has seg flagSYN = false

/-- A segment passes the four checks of 44_tcp_fsm.md R225 to R228. -/
def passesAck (k : Sock) (seg : Segment) : Prop :=
  passes k seg ∧ has seg flagACK = true ∧ seqGT seg.ack k.sndNxt = false

/-- The negotiated MSS (44_tcp_fsm.md R222). -/
def clampedMss (p : Params) (seg : Segment) : Half :=
  let m := seg.mssOpt.getD p.mssDefault
  if m.toNat < p.mssMin.toNat then p.mssMin else if p.mssMax.toNat < m.toNat then p.mssMax else m

/-- The larger of two windows. -/
def widest (a b : Half) : Half := if a.toNat < b.toNat then b else a

/-- A packet endpoint fits record `k` for TCP, its remote port apart (43_socket_lookup.md R211). -/
def tcpCandidate (k : Sock) (ifx : Byte) (src dst : Word) (dstPort : Half) : Prop :=
  k.type = .stream ∧ endpointFits k ifx src dst dstPort

/-- Record `n` is the match of a TCP endpoint: the first that fits with its remote port, or, where none does, the
first listener that fits (43_socket_lookup.md R210, R212). -/
def tcpMatch (s : State) (ifx : Byte) (src dst : Word) (srcPort dstPort : Half) (n : Nat) : Prop :=
  let fits (m : Nat) : Prop := m < s.socks.length ∧ tcpCandidate (s.sock m) ifx src dst dstPort
  let exact (m : Nat) : Prop := fits m ∧ (s.sock m).remotePort = srcPort
  let passive (m : Nat) : Prop := fits m ∧ (s.sock m).state = .listen
  (exact n ∧ ∀ m < n, ¬ exact m) ∨ ((∀ m, ¬ exact m) ∧ passive n ∧ ∀ m < n, ¬ passive m)

/-- Record `n` is the match of a UDP endpoint: the first that fits (43_socket_lookup.md R214). -/
def udpMatch (s : State) (ifx : Byte) (src dst : Word) (srcPort dstPort : Half) (n : Nat) : Prop :=
  let fits (m : Nat) : Prop :=
    m < s.socks.length ∧ (s.sock m).type = .datagram ∧ endpointFits (s.sock m) ifx src dst dstPort ∧
    ((s.sock m).remotePort = 0 ∨ (s.sock m).remotePort = srcPort)
  fits n ∧ ∀ m < n, ¬ fits m

/-- `n` is the least free record (45_host_ops.md R290, R294). -/
def leastFree (s : State) (n : Nat) : Prop :=
  n < s.socks.length ∧ (s.sock n).type = .unused ∧ ∀ m < n, (s.sock m).type ≠ .unused

/-- No record is free. -/
def tableFull (s : State) : Prop := ∀ n < s.socks.length, (s.sock n).type ≠ .unused

/-- A stream record the application holds. -/
def heldStream (k : Sock) : Prop := k.type = .stream ∧ k.owned = true

/-- A held stream record in CLOSED with a local port (45_host_ops.md R292, R293). -/
def boundStream (k : Sock) : Prop := heldStream k ∧ k.state = .closed ∧ k.localPort ≠ 0

/-- `w` is the local address an active open uses: the bound one, or the first VALID one of the interface
(45_host_ops.md R293). -/
def connectFrom (k : Sock) (f : Iface) (w : Word) : Prop :=
  (k.localAddr = .v4 w ∧ w ≠ 0) ∨
  ((k.localAddr = .unspec ∨ k.localAddr = .v4 0) ∧
    ∃ l e r, f.addr = l ++ e :: r ∧ e.status = .valid ∧ e.a = w ∧ ∀ x ∈ l, x.status ≠ .valid)

/-- A slot is past the reassembly time-to-live at tick `now` (42_frag_reassembly.md R200). -/
def tooOld (p : Params) (now : Word) (f : Slot) : Bool :=
  f.inUse && decide (p.reasmTtl < (now - f.stamp).toNat)

/-- The partial datagram of a slot: the header and the bytes received without a gap (42_frag_reassembly.md R201). -/
def partialOf (f : Slot) : Bytes := f.hdr ++ f.data.take (f.holes.headD ⟨0, .inf⟩).first

/-- A record has reached the end of TIME-WAIT or FIN-WAIT-2 at tick `now` (44_tcp_fsm.md R255). -/
def lapsed (p : Params) (now : Word) (k : Sock) : Bool :=
  decide (k.type = .stream) &&
    ((decide (k.state = .timeWait) && k.t2msl.armed && decide (p.t2msl ≤ (now - k.t2msl.start).toNat)) ||
     (decide (k.state = .finWait2) && k.tFw2.armed && decide (p.tFinWait2 ≤ (now - k.tFw2.start).toNat)))

/-- A record owes an acknowledgement that the tick sends (44_tcp_fsm.md R255). -/
def owesAck (p : Params) (now : Word) (k : Sock) : Bool :=
  !lapsed p now k && decide (k.type = .stream) && k.ackPending &&
    (decide (k.state = .established) || decide (k.state = .closeWait) || decide (k.state = .finWait1) ||
     decide (k.state = .finWait2))

/-- Bytes `[lo, hi)` of a payload, clipped to what exists (40_checksum.md R134). -/
def clipped (l : Bytes) (off len : Word) : Bytes :=
  (l.take (min (off.toNat + len.toNat) l.length)).drop (min off.toNat l.length)

/-- How many fragments a payload makes at `m` bytes each (42_frag_reassembly.md R182). -/
def pieces (m : Nat) (pay : Bytes) : Nat := (pay.length + m - 1) / m

/-- Fragment `i` of a payload cut at `m` bytes, as a `TXQ` entry (42_frag_reassembly.md R180). -/
def fragment (p : Params) (ifx tos : Byte) (id : Half) (ttl proto : Byte) (src dst : Word) (m : Nat) (pay : Bytes)
    (i : Nat) : TxEntry :=
  ⟨ifx, dst, ttl, tos,
    packet p tos id (BitVec.ofNat 16 (i * m / 8) ||| (if i + 1 = pieces m pay then 0 else 0x2000)) ttl proto
      src dst ((pay.drop (i * m)).take m)⟩

/-- The upper-layer checksum of a received segment (44_tcp_fsm.md R220, 40_checksum.md R137). -/
def segmentSum (p : Params) (src dst : Word) (seg : Bytes) : Half :=
  let ph := enc32 src ++ enc32 dst ++ [0x00#8, 0x06#8] ++ enc16 (BitVec.ofNat 16 seg.length)
  cpl (fold ((osum p ph).toNat + (osum p seg).toNat))

/-- The slot a fragment goes to, and its contents before the fragment is merged: the first in use with its key, or
else the first free one, opened at tick `now` (42_frag_reassembly.md R187). -/
def slotFor (fs : List Slot) (now : Word) (d : Bytes) (j : Nat) (g : Slot) : Prop :=
  let used (m : Nat) : Prop := m < fs.length ∧ (fs.getD m Slot.reset).inUse = true ∧ keyIs (fs.getD m Slot.reset) d
  let idle (m : Nat) : Prop := m < fs.length ∧ (fs.getD m Slot.reset).inUse = false
  (used j ∧ (∀ m < j, ¬ used m) ∧ g = fs.getD j Slot.reset) ∨
  ((∀ m, ¬ used m) ∧ idle j ∧ (∀ m < j, ¬ idle m) ∧
    g = ⟨true, be32 d 12, be32 d 16, be16 d 4, byteAt d 9, now, 0, [], 0, [], [⟨0, .inf⟩]⟩)

/-- A slot once a fragment is merged into it (42_frag_reassembly.md R188 to R191). -/
def mergedInto (d : Bytes) (g : Slot) : Slot :=
  let base := g.data ++ List.replicate (dataLast d - g.dataLen) 0#8
  { g with
    hlen := if dataFirst d = 0 then BitVec.ofNat 8 (headerLen d) else g.hlen
    hdr := if dataFirst d = 0 then d.take (headerLen d) else g.hdr
    dataLen := max g.dataLen (dataLast d)
    data := base.take (dataFirst d) ++ d.drop (headerLen d) ++ base.drop (dataLast d)
    holes := splitHoles (dataFirst d) (dataLast d) (!moreFragments d) g.holes }

/-- The datagram a complete slot becomes (42_frag_reassembly.md R192). -/
def wholeDatagram (g : Slot) : Bytes :=
  g.hdr.take 2 ++ enc16 (BitVec.ofNat 16 (g.hlen.toNat + g.dataLen)) ++ (g.hdr.drop 4).take 2 ++
    [0x00#8, 0x00#8] ++ (g.hdr.drop 8).take 2 ++ [0x00#8, 0x00#8] ++ g.hdr.drop 12 ++ g.data

/-- The holes of a list are not empty, in order and disjoint (10_state.md R41). -/
def holesInOrder (hs : List Hole) : Prop :=
  (∀ h ∈ hs, match h.last with
    | .fin n => h.first < n
    | .inf => True) ∧
  hs.Pairwise fun a b => match a.last with
    | .fin n => n ≤ b.first
    | .inf => False

/-- `d` is a fragment of the payload `p` whose header in fragment zero is `h`: its bytes are those of `p` where it
says they are, and only the final fragment reaches the end of `p` (42_frag_reassembly.md R194). -/
def fragmentOf (h p d : Bytes) : Prop :=
  headerLen d ≤ d.length ∧ dataFirst d < dataLast d ∧ dataLast d ≤ p.length ∧
  d.drop (headerLen d) = (p.take (dataLast d)).drop (dataFirst d) ∧
  (moreFragments d = true ↔ dataLast d < p.length) ∧ (dataFirst d = 0 → d.take (headerLen d) = h)

end Sys2Proof.Claims

section

open Sys2Proof Sys2Proof.Machine Sys2Proof.Claims

/-! Encoding. -/

/-- 30_encoding.md R100, R110, R112 to R114: no field of a well-formed instruction is lost in its encoding. -/
def Obligations.DecodeEncodeAgree : Prop :=
  ∀ i : Instr, i.wf = true → decode (encode i) = .ok i

/-- 30_encoding.md R111. -/
def Obligations.CommandCodesAreExactly27 : Prop :=
  ∀ cmd wdata : Word,
    ((∃ i, decodeCommand cmd wdata = .ok i) ↔ cmdOp cmd ∈ commandCodes) ∧
    (cmdOp cmd ∉ commandCodes → decodeCommand cmd wdata = .error (.badCommand (cmdOp cmd)))

/-- 30_encoding.md R100, R115: bits that an operation does not name have no effect. The first list are the codes
that name neither field, the second those that name `x` only, the third clause is for the one that names `y` only,
the fourth for `SETA`, which names `x` and `WDATA`; `IPTX` names `y[7:0]`, and `WDATA` goes with SETA alone. -/
def Obligations.UnnamedFieldsAreIgnored : Prop :=
  (∀ op ∈ [0x00#8, 0x01#8, 0x41#8, 0x50#8, 0x51#8, 0x52#8], ∀ (x x' : Byte) (y y' : Half) (w w' : Word),
    decodeCommand (commandWord op x y) w = decodeCommand (commandWord op x' y') w') ∧
  (∀ op ∈ [0x02#8, 0x10#8, 0x21#8, 0x30#8, 0x31#8, 0x57#8, 0x58#8, 0x64#8, 0x65#8, 0x66#8],
    ∀ (x : Byte) (y y' : Half) (w w' : Word),
      decodeCommand (commandWord op x y) w = decodeCommand (commandWord op x y') w') ∧
  (∀ (x x' : Byte) (y : Half) (w w' : Word),
    decodeCommand (commandWord 0x60 x y) w = decodeCommand (commandWord 0x60 x' y) w') ∧
  (∀ (x : Byte) (y y' : Half) (w : Word),
    decodeCommand (commandWord 0x56 x y) w = decodeCommand (commandWord 0x56 x y') w) ∧
  (∀ (x p : Byte) (h h' : Byte) (w w' : Word),
    decodeCommand (commandWord 0x12 x (h ++ p)) w = decodeCommand (commandWord 0x12 x (h' ++ p)) w') ∧
  (∀ cmd w w' : Word, cmdOp cmd ≠ 0x56 → decodeCommand cmd w = decodeCommand cmd w')

/-- 30_encoding.md R110, R112 to R114, R117: words written out from the encoding. -/
def Obligations.SpecWordsDecode : Prop :=
  decode (.command 0x00000000 0) = .ok .nop ∧
  decode (.command 0x02030000 0) = .ok (.csumx 3) ∧
  decode (.command 0x03060014 0) = .ok (.csumul 6 20) ∧
  decode (.command 0x10000000 0) = .ok (.iprx 0) ∧
  decode (.command 0x54000010 0) = .ok (.crwr 0 0x10) ∧
  decode (.command 0x56030000 7) = .ok (.seta 3 7) ∧
  decode (.command 0x61000050 0) = .ok (.sbind 0 80) ∧
  decode (.command 0x67010064 0) = .ok (.srecv 1 100) ∧
  decode (.command 0x99000000 0) = .error (.badCommand 0x99) ∧
  decode (.fragsel 0x4000 0 []) = .ok (.ipdemux 0 []) ∧
  decode (.fragsel 0x2001 0 []) = .ok (.reasm 0 []) ∧
  decode (.proto 6 0 1 2 []) = .ok (.tcprx 0 1 2 []) ∧
  decode (.state 6 1 0 2 3 bareSegment) = .ok (.tcpsLastAck 1 0 2 3 bareSegment) ∧
  decode (.state 11 1 0 2 3 bareSegment) = .error (.reservedState 11)

/-! The step. -/

/-- 10_state.md R23: what is presented is latched, decoded and run to its end. That what is presented stands in a port
which the input leaves, and that an empty port waits, is the model's form (log 3), and so is the cleared output record
(log 8); the second clause is the model's own entry to one internal operation (log 4). -/
def Obligations.StepRunsDecodedInstruction : Prop :=
  (∀ (s : State) (cmd wdata : Word) (tid : Byte) (rest : List Input) (i : Instr),
    s.port = .command cmd tid wdata :: rest → decode (.command cmd wdata) = .ok i →
    step s = exec i { s with port := rest, out := .none, cmd := cmd, tid := tid }) ∧
  (∀ (s : State) (e : Entry) (rest : List Input) (i : Instr),
    s.port = .internal e :: rest → decode e = .ok i → step s = exec i { s with port := rest, out := .none }) ∧
  (∀ s : State, s.port = [] → step s = .next s)

/-- 30_encoding.md R111. That the latch takes the word all the same is the model's reading (log 23), that the input
leaves the port and the output record is cleared is its own form (log 3, 8). -/
def Obligations.IllegalCommandOnlyCounts : Prop :=
  ∀ (s : State) (cmd wdata : Word) (tid : Byte) (rest : List Input),
    s.port = .command cmd tid wdata :: rest → cmdOp cmd ∉ commandCodes →
    step s = .next { s with
      port := rest, out := .none, cmd := cmd, tid := tid, r0 := 0, st := 0x7F
      cnt := bump s.cnt .badCommand }

/-- 10_state.md R60, 70_reset_and_hazards.md R340, R342: the reset input. That it is an input of the port, and what
of the model's own fields it leaves alone, is the model's choice (log 3, 24). -/
def Obligations.ResetInputRestoresContext : Prop :=
  ∀ (s : State) (rest : List Input), s.port = .reset :: rest →
    ∃ t, step s = .next t ∧ (∀ r : Fin 8, t.a[r] = none) ∧ t.r0 = 0 ∧ t.st = 0 ∧ t.cmd = 0 ∧ t.tid = 0 ∧
      t.lock = .free ∧ t.now = 0 ∧
      t.ifs.length = s.par.nIf ∧
      (∀ f ∈ t.ifs, f.mtu = 0 ∧ f.ipId = 0 ∧ f.addr.length = s.par.nAddr ∧ f.mcast.length = s.par.nMcast ∧
        f.frag.length = s.par.nFrag ∧ (∀ e ∈ f.addr, e = ⟨0, 0, .invalid⟩) ∧ (∀ g ∈ f.mcast, g = 0) ∧
        ∀ x ∈ f.frag, x = ⟨false, 0, 0, 0, 0, 0, 0, [], 0, [], []⟩) ∧
      t.socks.length = s.par.nSock ∧ (∀ k ∈ t.socks, k = Sock.reset) ∧
      t.txq = [] ∧ t.icmpq = [] ∧ t.evq = [] ∧ t.upq = [] ∧ (∀ c : Byte, t.cnt[c.toNat]'c.isLt = 0) ∧
      t.mem = s.mem ∧ t.par = s.par ∧ t.port = rest

/-- 10_state.md R60: every part of the network context after reset, for all parameters. -/
def Obligations.ResetValues : Prop :=
  (let k := Sock.reset
   k.type = .unused ∧ k.owned = false ∧ k.ifBound = 0xFF ∧ k.ifx = 0 ∧ k.localAddr.len = 0 ∧
   k.remoteAddr.len = 0 ∧ k.localPort = 0 ∧ k.remotePort = 0 ∧ k.state.code = 0 ∧ k.iss = 0 ∧ k.irs = 0 ∧
   k.sndUna = 0 ∧ k.sndNxt = 0 ∧ k.rcvNxt = 0 ∧ k.sndWnd = 0 ∧ k.maxSndWnd = 0 ∧ k.rcvWnd = 0 ∧ k.mss = 0 ∧
   k.rto = 0 ∧ k.t2msl = ⟨false, 0⟩ ∧ k.tFw2 = ⟨false, 0⟩ ∧ k.synqMax = 0 ∧ k.synq = [] ∧ k.rxq = [] ∧
   k.ooo = [] ∧ k.ackPending = false ∧ k.resetFlag = false ∧ k.released = false) ∧
  ∀ p : Params,
    let t := State.resetWith p
    (∀ r : Fin 8, t.a[r] = none) ∧ t.r0 = 0 ∧ t.st = 0 ∧ t.cmd = 0 ∧ t.tid = 0 ∧ t.lock = .free ∧ t.now = 0 ∧
    t.ifs = List.replicate p.nIf ⟨0, List.replicate p.nAddr ⟨0, 0, .invalid⟩, List.replicate p.nMcast 0, 0,
      List.replicate p.nFrag ⟨false, 0, 0, 0, 0, 0, 0, [], 0, [], []⟩⟩ ∧
    t.socks = List.replicate p.nSock Sock.reset ∧
    t.txq = [] ∧ t.icmpq = [] ∧ t.evq = [] ∧ t.upq = [] ∧ ∀ c : Byte, t.cnt[c.toNat]'c.isLt = 0

/-! Refusals and whole-machine rules. -/

/-- 45_host_ops.md R282 (2), 60_exceptions.md R324. -/
def Obligations.LockNotHeldIsRefused : Prop :=
  ∀ (i : Instr) (s : State), needsLock i = true → s.lock ≠ .held s.tid →
    exec i s = .next (refused s .lockNotHeld)

/-- 45_host_ops.md R282 (3), (4); 10_state.md R21. -/
def Obligations.BadOperandIsRefused : Prop :=
  ∀ (i : Instr) (s : State), i.isCommand = true → s.par.legal = true →
    (needsLock i = true → s.lock = .held s.tid) →
    ((∃ r ∈ operandRegs i, s.a[r] = none) ∨ ¬ operandsLegal s i) →
    exec i s = .next (refused s .badOperand)

/-- 60_exceptions.md R323: no command stops the block, and no input a host can present does. What a host can present
is said of the model's port (log 3, 4). -/
def Obligations.EveryHostInputCompletes : Prop :=
  (∀ (i : Instr) (s : State), i.isCommand = true → ∃ t, exec i s = .next t) ∧
  (∀ s : State, hostOnly s → ∃ t, step s = .next t ∧ hostOnly t)

/-- 10_state.md R24, R25, 45_host_ops.md R283: the lock is changed only by LOCK and UNLOCK, and never taken from its
holder; the time only by TICK, by one. -/
def Obligations.LockAndTimeKeepTheirCommands : Prop :=
  ∀ (i : Instr) (s t : State), exec i s = .next t →
    (t.lock ≠ s.lock →
      (i = .lock ∧ s.lock = .free ∧ t.lock = .held s.tid) ∨
      (i = .unlock ∧ s.lock = .held s.tid ∧ t.lock = .free)) ∧
    (t.now ≠ s.now → i = .tick ∧ t.now = s.now + 1)

/-- 20_memory.md R71; 10_state.md R23, R62: no operation writes buffer memory, the parameters, the latch or what is
presented. That the parameters are a field and that what is presented stands in a port is the model's form
(log 1, 3). -/
def Obligations.BufferMemoryIsNeverWritten : Prop :=
  ∀ (i : Instr) (s t : State), exec i s = .next t →
    (∀ a : Nat, memGet t.mem a = memGet s.mem a) ∧ t.mem = s.mem ∧ t.par = s.par ∧ t.cmd = s.cmd ∧
    t.tid = s.tid ∧ t.port = s.port

/-- 10_state.md R21: an operand register is written by SETA only. -/
def Obligations.OperandRegistersWrittenOnlyBySeta : Prop :=
  ∀ (i : Instr) (s t : State) (r : Fin 8), exec i s = .next t → t.a[r] ≠ s.a[r] →
    ∃ v, i = .seta (BitVec.ofNat 8 r.val) v ∧ t.a[r] = some v

/-- 10_state.md R22: no command reads `ST` or `R0` as an input. -/
def Obligations.ResultAndStatusAreNoInputs : Prop :=
  ∀ (i : Instr) (s : State) (v : Word) (c : Byte), i.isCommand = true →
    exec i { s with r0 := v, st := c } = exec i s

/-! Lock, operand registers, control registers, queues. -/

/-- 45_host_ops.md R280, R281, R287, R289, R298: the commands that need no lock and read no memory. -/
def Obligations.PortCommandResults : Prop :=
  ∀ s : State,
    exec .nop s = .next { s with r0 := 0, st := 0 } ∧
    (s.lock = .free → exec .lock s = .next { s with lock := .held s.tid, r0 := 0, st := 0 }) ∧
    (∀ t, s.lock = .held t → exec .lock s = .next { s with r0 := t.setWidth 32, st := 0x54 }) ∧
    (s.lock = .held s.tid → exec .unlock s = .next { s with lock := .free, r0 := 0, st := 0 }) ∧
    (s.lock ≠ .held s.tid → exec .unlock s = .next (refused s .lockNotHeld)) ∧
    (∀ (r : Fin 8) (v : Word),
      exec (.seta (BitVec.ofNat 8 r.val) v) s = .next { s with a := s.a.set r (some v), r0 := 0, st := 0 } ∧
      (s.a[r] = some v → exec (.geta (BitVec.ofNat 8 r.val)) s = .next { s with r0 := v, st := 0 }) ∧
      (s.a[r] = none → exec (.geta (BitVec.ofNat 8 r.val)) s = .next (refused s .badOperand))) ∧
    ∀ (i : Byte) (v : Word), 7 < i.toNat →
      exec (.seta i v) s = .next (refused s .badOperand) ∧ exec (.geta i) s = .next (refused s .badOperand)

/-- 45_host_ops.md R284, 10_state.md R57. -/
def Obligations.CrrdReadsEveryRegister : Prop :=
  ∀ (s : State) (i : Byte), s.par.legal = true → s.lock = .held s.tid →
    let reads (y : Nat) (v : Word) : Prop :=
      exec (.crrd i (BitVec.ofNat 16 y)) s = .next { s with r0 := v, st := 0 }
    reads 0x0000 0x4E455431 ∧ reads 0x0001 s.now ∧ reads 0x0002 (0x100#32 ||| s.tid.setWidth 32) ∧
    (∃ v : Word, reads 0x0003 v ∧ v.toNat < 16 ∧ v.getLsbD 0 = s.par.forwarding ∧
      v.getLsbD 1 = s.par.synCheckCloses ∧ v.getLsbD 2 = decide (s.par.tcpOoo = .buffer) ∧
      v.getLsbD 3 = decide (s.par.csumPreset = 0xFFFF)) ∧
    (∃ v : Word, reads 0x0004 v ∧ v.extractLsb' 0 8 = BitVec.ofNat 8 (min s.txq.length 255) ∧
      v.extractLsb' 8 8 = BitVec.ofNat 8 (min s.icmpq.length 255) ∧
      v.extractLsb' 16 8 = BitVec.ofNat 8 (min s.evq.length 255) ∧
      v.extractLsb' 24 8 = BitVec.ofNat 8 (min s.upq.length 255)) ∧
    (∀ c : Byte, reads (0x1000 + c.toNat) (s.cnt[c.toNat]'c.isLt)) ∧
    (i.toNat < s.par.nIf →
      let f := s.iface i.toNat
      reads 0x0010 (f.mtu.setWidth 32) ∧ reads 0x0011 (f.ipId.setWidth 32) ∧
      (∀ k < s.par.nAddr,
        let e := f.addr.getD k ⟨0, 0, .invalid⟩
        reads (0x20 + 4 * k) e.a ∧ reads (0x21 + 4 * k) (e.plen.setWidth 32) ∧
        reads (0x22 + 4 * k) (e.status.code.setWidth 32)) ∧
      ∀ k < s.par.nMcast, reads (0x100 + k) (f.mcast.getD k 0))

/-- 45_host_ops.md R285, 10_state.md R57. -/
def Obligations.CrwrWritesEveryRegister : Prop :=
  ∀ (s : State) (i : Byte) (v : Word), s.par.legal = true → s.lock = .held s.tid → i.toNat < s.par.nIf →
    s.a[0] = some v →
    let f := s.iface i.toNat
    let writes (y : Nat) (g : Iface) : Prop :=
      exec (.crwr i (BitVec.ofNat 16 y)) s = .next { s with ifs := s.ifs.set i.toNat g, r0 := 0, st := 0 }
    (68 ≤ v.toNat → v.toNat ≤ 65535 → writes 0x0010 { f with mtu := v.setWidth 16 }) ∧
    writes 0x0011 { f with ipId := v.setWidth 16 } ∧
    (∀ k < s.par.nAddr,
      let e := f.addr.getD k ⟨0, 0, .invalid⟩
      writes (0x20 + 4 * k) { f with addr := f.addr.set k { e with a := v } } ∧
      (v.toNat ≤ 32 → writes (0x21 + 4 * k) { f with addr := f.addr.set k { e with plen := v.setWidth 6 } }) ∧
      ∀ st : AddrStatus, v = st.code.setWidth 32 →
        writes (0x22 + 4 * k) { f with addr := f.addr.set k { e with status := st } }) ∧
    (∀ k < s.par.nMcast, v = 0 ∨ multicast v → writes (0x100 + k) { f with mcast := f.mcast.set k v })

/-- 45_host_ops.md R286, 10_state.md R58. -/
def Obligations.SkrdReadsEveryField : Prop :=
  ∀ (s : State) (sock : Byte) (y : Half), s.lock = .held s.tid → sock.toNat < s.par.nSock →
    exec (.skrd sock y) s =
      if y.toNat < 30 then .next { s with r0 := (fieldTable (s.sock sock.toNat)).getD y.toNat 0, st := 0 }
      else .next (refused s .badOperand)

/-- 45_host_ops.md R288, 40_checksum.md R140: what DRAIN removes and what PSHDR builds are outputs, no state; the
model shows both in `out` (log 8). -/
def Obligations.DrainAndPseudoHeaderOutputs : Prop :=
  (∀ (s : State) (src dst : Word) (proto : Byte) (len : Half),
    exec (.pshdr src dst proto len) s =
      .next { s with out := .bytes (enc32 src ++ enc32 dst ++ [0x00#8, proto] ++ enc16 len) }) ∧
  ∀ s : State, s.lock = .held s.tid →
    (∀ q : Byte, q ∉ [0x00#8, 0x01#8, 0x02#8, 0x03#8, 0xFF#8] → exec (.drain q) s = .next (refused s .badOperand)) ∧
    exec (.drain 0) s = .next { s with
      txq := [], r0 := BitVec.ofNat 32 s.txq.length, st := 0, out := .drained s.txq [] [] [] } ∧
    exec (.drain 1) s = .next { s with
      icmpq := [], r0 := BitVec.ofNat 32 s.icmpq.length, st := 0, out := .drained [] s.icmpq [] [] } ∧
    exec (.drain 2) s = .next { s with
      evq := [], r0 := BitVec.ofNat 32 s.evq.length, st := 0, out := .drained [] [] s.evq [] } ∧
    exec (.drain 3) s = .next { s with
      upq := [], r0 := BitVec.ofNat 32 s.upq.length, st := 0, out := .drained [] [] [] s.upq } ∧
    exec (.drain 0xFF) s = .next { s with
      txq := [], icmpq := [], evq := [], upq := [], st := 0
      r0 := BitVec.ofNat 32 (s.txq.length + s.icmpq.length + s.evq.length + s.upq.length)
      out := .drained s.txq s.icmpq s.evq s.upq }

/-! Checksums. -/

/-- 40_checksum.md R131, R134, R137. -/
def Obligations.ChecksumCommandResults : Prop :=
  ∀ s : State,
    (∀ addr n : Word, s.a[0] = some addr → s.a[1] = some n →
      exec .csum s = .next { s with
        r0 := (checksum s.par (memRead s.mem addr n.toNat)).setWidth 32, st := 0 }) ∧
    (∀ (c : Byte) (t off len : Word), s.a[0] = some t → s.a[1] = some off → s.a[2] = some len →
      let l := chunkBytes s.mem t c.toNat
      let lo := min off.toNat l.length
      let hi := min (off.toNat + len.toNat) l.length
      exec (.csumx c) s = .next { s with r0 := (checksum s.par ((l.take hi).drop lo)).setWidth 32, st := 0 }) ∧
    (∀ (proto : Byte) (plen : Half) (t off len src dst c : Word), s.a[0] = some t → s.a[1] = some off →
      s.a[2] = some len → s.a[3] = some src → s.a[4] = some dst → s.a[5] = some c →
      let l := chunkBytes s.mem t c.toNat
      let pl := (l.take (min (off.toNat + len.toNat) l.length)).drop (min off.toNat l.length)
      let ph := enc32 src ++ enc32 dst ++ [0x00#8, proto] ++ enc16 plen
      exec (.csumul proto plen) s = .next { s with
        r0 := (cpl (fold ((osum s.par ph).toNat + (osum s.par pl).toNat))).setWidth 32, st := 0 })

/-- 40_checksum.md R133: the lane datapath of R132 computes the checksum of R130, at every address. -/
def Obligations.LaneDatapathIsChecksum : Prop :=
  ∀ (p : Params) (m : Memory) (a : Word) (n : Nat),
    laneSum m a n = fold (wsum (memRead m a n)) ∧ laneChecksum p m a n = checksum p (memRead m a n)

/-- 40_checksum.md R134 to R136: the scattered datapath computes the checksum of the logical bytes, however they are
cut into portions; the portions of a region of chunks hold exactly the bytes of the region; and CSUMX leaves in `R0`
what the datapath computes from its operands. -/
def Obligations.ScatteredDatapathIsChecksum : Prop :=
  (∀ (p : Params) (m : Memory) (portions : List (Word × Nat)),
    portionChecksum p m portions = checksum p (pieceBytes m portions)) ∧
  (∀ (m : Memory) (chunks : List (Word × Nat)) (lo hi : Nat),
    pieceBytes m (regionPortions lo hi 0 chunks) = ((pieceBytes m chunks).take hi).drop lo) ∧
  ∀ (s : State) (c : Byte) (t off len : Word), s.a[0] = some t → s.a[1] = some off → s.a[2] = some len →
    exec (.csumx c) s = .next { s with
      r0 := (scatteredChecksum s.par s.mem (chunkTable s.mem t c.toNat) off.toNat len.toNat).setWidth 32, st := 0 }

/-- 40_checksum.md R142: a generated checksum verifies, for both presets. -/
def Obligations.GeneratedChecksumVerifies : Prop :=
  ∀ (p : Params) (b : Bytes) (k : Nat), (p.csumPreset = 0x0000 ∨ p.csumPreset = 0xFFFF) → k % 2 = 0 →
    k + 2 ≤ b.length → byteAt b k = 0 → byteAt b (k + 1) = 0 →
    checksum p (overwrite b k (enc16 (checksum p b))) = 0

/-! The socket operations. -/

/-- 45_host_ops.md R290, R291, R292: the first free record is opened, bound, and made a listener; what the rule asks
of the record and it does not have is refused, and so is an operand outside its legal values. That SLISTEN leaves the
`ifx` of its record is the model's choice (log 27). -/
def Obligations.OpenBindListenResults : Prop :=
  ∀ s : State, s.lock = .held s.tid →
    (∀ y : Half, y ∉ [0x0001#16, 0x0002#16, 0x0003#16] → exec (.sopen y) s = .next (refused s .badOperand)) ∧
    (∀ y t, (y, t) ∈ [((1 : Half), SockType.stream), (2, .datagram), (3, .raw)] →
      (∀ n, leastFree s n → exec (.sopen y) s = .next { s with
        socks := s.socks.set n { Sock.reset with type := t, owned := true }
        r0 := BitVec.ofNat 32 n, st := 0 }) ∧
      (tableFull s → exec (.sopen y) s = .next { dropped s .noFreeSocket with r0 := 0xFFFFFFFF })) ∧
    ∀ sock : Byte, sock.toNat < s.par.nSock →
      let k := s.sock sock.toNat
      (∀ (port : Half) (la b : Word), s.a[0] = some la → s.a[1] = some b →
        (b ≠ 0xFF → s.par.nIf ≤ b.toNat → exec (.sbind sock port) s = .next (refused s .badOperand)) ∧
        (b = 0xFF ∨ b.toNat < s.par.nIf → k.type ≠ .unused ∧ k.owned = true ∧ k.state = .closed →
          exec (.sbind sock port) s = .next { s with
            socks := s.socks.set sock.toNat { k with
              localPort := port, localAddr := if la = 0 then .unspec else .v4 la, ifBound := b.setWidth 8 }
            r0 := 0, st := 0 }) ∧
        (b = 0xFF ∨ b.toNat < s.par.nIf → ¬ (k.type ≠ .unused ∧ k.owned = true ∧ k.state = .closed) →
          exec (.sbind sock port) s = .next (refused s .badState))) ∧
      ∀ y : Half,
        (y.toNat = 0 ∨ s.par.synqMax < y.toNat → exec (.slisten sock y) s = .next (refused s .badOperand)) ∧
        (1 ≤ y.toNat → y.toNat ≤ s.par.synqMax →
          (boundStream k → exec (.slisten sock y) s = .next { s with
            socks := s.socks.set sock.toNat { k with state := .listen, synqMax := y.setWidth 8, synq := [] }
            r0 := 0, st := 0 }) ∧
          (¬ boundStream k → exec (.slisten sock y) s = .next (refused s .badState)))

/-- 45_host_ops.md R293: an active open fills the record and hands one SYN to the link; a record that is not a bound
stream record, or an interface without a VALID address where one is needed, is refused. -/
def Obligations.SconnectSendsSyn : Prop :=
  ∀ (s : State) (sock : Byte) (port : Half) (ra iss out : Word), s.lock = .held s.tid →
    sock.toNat < s.par.nSock → port ≠ 0 → s.a[0] = some ra → ra ≠ 0 → s.a[1] = some iss → s.a[2] = some out →
    out.toNat < s.par.nIf →
    let k := s.sock sock.toNat
    let f := s.iface out.toNat
    (∀ w, boundStream k → connectFrom k f w →
      ∃ t, exec (.sconnect sock port) s = .next t ∧ t.r0 = 0 ∧ t.st = 0 ∧
        t.sock sock.toNat = { k with
          localAddr := .v4 w, remoteAddr := .v4 ra, remotePort := port, ifx := out.setWidth 8
          iss := iss, sndUna := iss, sndNxt := iss + 1, irs := 0, rcvNxt := 0, rcvWnd := s.par.rxWnd
          sndWnd := 0, maxSndWnd := 0
          mss := if s.par.mssDefault.toNat < s.par.mssMin.toNat then
              (if s.par.mssMax.toNat < s.par.mssMin.toNat then s.par.mssMax else s.par.mssMin)
            else if s.par.mssMax.toNat < s.par.mssDefault.toNat then s.par.mssMax else s.par.mssDefault
          rxq := [], ooo := [], ackPending := false, resetFlag := false, released := false
          state := .synSent } ∧
        quiet [sock.toNat] none s t ∧
        oneSegment s t (out.setWidth 8) w ra
          ⟨k.localPort, port, iss, 0, flagSYN, s.par.rxWnd, [0x02#8, 0x04#8] ++ enc16 s.par.localMss⟩) ∧
    (¬ boundStream k → exec (.sconnect sock port) s = .next (refused s .badState)) ∧
    ((k.localAddr = .unspec ∨ k.localAddr = .v4 0) → (∀ e ∈ f.addr, e.status ≠ .valid) →
      exec (.sconnect sock port) s = .next (refused s .badState))

/-- 45_host_ops.md R294: the oldest request becomes the first free record, and one SYN+ACK is handed to the link; an
empty backlog would block, a full table keeps the request. -/
def Obligations.SacceptTakesOldestRequest : Prop :=
  ∀ (s : State) (sock : Byte) (iss : Word), s.lock = .held s.tid → sock.toNat < s.par.nSock → s.a[1] = some iss →
    let k := s.sock sock.toNat
    (heldStream k → k.state = .listen →
      (k.synq = [] → exec (.saccept sock) s = .next { s with r0 := 0xFFFFFFFF, st := 0x52 }) ∧
      (∀ e rest, k.synq = e :: rest →
        (tableFull s → exec (.saccept sock) s = .next { dropped s .noFreeSocket with r0 := 0xFFFFFFFF }) ∧
        ∀ n, leastFree s n →
          ∃ t, exec (.saccept sock) s = .next t ∧ t.r0 = BitVec.ofNat 32 n ∧ t.st = 0 ∧
            t.sock sock.toNat = { k with synq := rest } ∧
            t.sock n = { Sock.reset with
              type := .stream, owned := true, ifBound := k.ifBound, ifx := e.ifx
              localAddr := e.destAddr, localPort := k.localPort
              remoteAddr := e.srcAddr, remotePort := e.srcPort
              iss := iss, sndUna := iss, sndNxt := iss + 1
              irs := e.isn, rcvNxt := e.isn + 1, rcvWnd := s.par.rxWnd, mss := e.mss, rto := rtoAnswer s
              state := .synRcvd } ∧
            quiet [sock.toNat, n] none s t ∧
            oneSegment (rtoAsked s) t e.ifx e.destAddr.word e.srcAddr.word
              ⟨k.localPort, e.srcPort, iss, e.isn + 1, flagSYN ||| flagACK, s.par.rxWnd,
                [0x02#8, 0x04#8] ++ enc16 s.par.localMss⟩)) ∧
    (¬ (heldStream k ∧ k.state = .listen) → exec (.saccept sock) s = .next (refused s .badState))

/-- 45_host_ops.md R295, R296: our FIN, sent by SSHUT from ESTABLISHED and CLOSE-WAIT, by SCLOSE from SYN-RECEIVED as
well; SCLOSE recycles a record that has no connection, and lets the FSM finish one that is closing. -/
def Obligations.ShutAndCloseResults : Prop :=
  ∀ (s : State) (sock : Byte), s.lock = .held s.tid → sock.toNat < s.par.nSock →
    let k := s.sock sock.toNat
    let fin (i : Instr) (g : Sock) : Prop :=
      ∃ t, exec i s = .next t ∧ t.r0 = 0 ∧ t.st = 0 ∧ t.sock sock.toNat = g ∧ quiet [sock.toNat] none s t ∧
        oneSegment s t k.ifx k.localAddr.word k.remoteAddr.word
          (segmentFrom s.par k (flagFIN ||| flagACK) k.sndNxt k.rcvNxt)
    let sent : Sock := { k with sndNxt := k.sndNxt + 1 }
    (heldStream k →
      (k.state = .established → fin (.sshut sock) { sent with state := .finWait1, ackPending := false }) ∧
      (k.state = .closeWait → fin (.sshut sock) { sent with state := .lastAck, ackPending := false }) ∧
      (k.state ≠ .established → k.state ≠ .closeWait → exec (.sshut sock) s = .next (refused s .badState)) ∧
      (k.state = .synRcvd ∨ k.state = .established →
        fin (.sclose sock) { sent with state := .finWait1, owned := false }) ∧
      (k.state = .closeWait → fin (.sclose sock) { sent with state := .lastAck, owned := false }) ∧
      (k.state ∈ [TcpState.finWait1, .finWait2, .closing, .lastAck, .timeWait] →
        exec (.sclose sock) s = .next { s with
          socks := s.socks.set sock.toNat { k with owned := false }, r0 := 0, st := 0 })) ∧
    (k.type ≠ .unused → k.owned = true →
      k.type ≠ .stream ∨ k.state ∈ [TcpState.closed, .listen, .synSent] →
      exec (.sclose sock) s = .next { s with socks := s.socks.set sock.toNat Sock.reset, r0 := 0, st := 0 }) ∧
    (¬ heldStream k → exec (.sshut sock) s = .next (refused s .badState)) ∧
    (k.type = .unused ∨ k.owned = false → exec (.sclose sock) s = .next (refused s .badState))

/-- 45_host_ops.md R297: the bytes taken are shown in `out` (log 8), and the window opens by as many. -/
def Obligations.SrecvTakesBytes : Prop :=
  ∀ (s : State) (sock : Byte) (most : Half), s.lock = .held s.tid → sock.toNat < s.par.nSock → most ≠ 0 →
    let k := s.sock sock.toNat
    let n := min most.toNat k.rxq.length
    (heldStream k → k.rxq ≠ [] → exec (.srecv sock most) s = .next { s with
      socks := s.socks.set sock.toNat { k with rxq := k.rxq.drop n, rcvWnd := k.rcvWnd + BitVec.ofNat 16 n }
      r0 := BitVec.ofNat 32 n, st := 0, out := .bytes (k.rxq.take n) }) ∧
    (heldStream k → k.rxq = [] → exec (.srecv sock most) s = .next { s with r0 := 0, st := 0x52 }) ∧
    (¬ heldStream k → exec (.srecv sock most) s = .next (refused s .badState))

/-! The tick. -/

/-- 45_host_ops.md R283: TICK is its sweeps, one after the other, at the advanced time. -/
def Obligations.TickIsItsSweeps : Prop :=
  ∀ s : State, s.lock = .held s.tid → s.par.legal = true →
    ∃ (u : Nat → State) (v : State), u 0 = { s with now := s.now + 1 } ∧
      (∀ i < s.par.nIf, exec (.fragtick (BitVec.ofNat 8 i)) (u i) = .next (u (i + 1))) ∧
      exec .tcptick (u s.par.nIf) = .next v ∧
      exec .tick s = .next { v with r0 := s.now + 1 } ∧ v.now = s.now + 1 ∧ v.st = 0

/-- 42_frag_reassembly.md R200, R201: an interface that does not exist is refused; every slot past
the time-to-live is released and counted, and reported iff it holds the header of fragment zero; nothing else
changes. -/
def Obligations.FragtickEvictsOldSlots : Prop :=
  ∀ (s : State) (ifx : Byte), s.lock = .held s.tid →
    (s.par.nIf ≤ ifx.toNat → exec (.fragtick ifx) s = .next (refused s .badOperand)) ∧
    let f := s.iface ifx.toNat
    let old := f.frag.filter (tooOld s.par s.now)
    (ifx.toNat < s.par.nIf → f.frag.length = s.par.nFrag → (∀ x ∈ f.frag, x.inUse = true → x.holes ≠ []) →
    exec (.fragtick ifx) s = .next { s with
      ifs := s.ifs.set ifx.toNat { f with
        frag := f.frag.map fun x => if tooOld s.par s.now x then Slot.reset else x }
      icmpq := s.icmpq ++ (old.filter fun x => decide (x.hlen ≠ 0)).map fun x => ⟨ifx, 11, 1, 0, partialOf x⟩
      cnt := s.cnt.set 0x24 (s.cnt[0x24] + BitVec.ofNat 32 old.length)
      r0 := BitVec.ofNat 32 old.length, st := 0 })

/-- 44_tcp_fsm.md R255: the sweep closes what has lapsed, pays what is owed, and touches nothing else. That `R0` is
the number closed, whatever an acknowledgement in between wrote there, is the model's reading (log 12), and so is the
`ifx` of a record kept in CLOSED (log 27). -/
def Obligations.TcptickClosesLapsedRecords : Prop :=
  ∀ s : State, s.lock = .held s.tid → sized s →
    let ends := lapsed s.par s.now
    let owes := owesAck s.par s.now
    ∃ t, exec .tcptick s = .next t ∧ t.st = 0 ∧ t.r0 = BitVec.ofNat 32 (s.socks.filter ends).length ∧
      t.socks = s.socks.map (fun k =>
        if ends k then closedFrom false k else if owes k then { k with ackPending := false } else k) ∧
      quiet (List.range s.par.nSock) none s t ∧
      ((∀ k ∈ s.socks, owes k = false) → noSegment s t) ∧
      ∀ j < s.par.nSock, owes (s.sock j) = true → (∀ m < s.par.nSock, m ≠ j → owes (s.sock m) = false) →
        let k := s.sock j
        oneSegment s t k.ifx k.localAddr.word k.remoteAddr.word (ackOf s.par k)

/-! The lookup. -/

/-- 43_socket_lookup.md R210 to R214: the two lookups refuse an interface that does not exist, answer the match as
`tcpMatch` and `udpMatch` say it, or nothing, and change no table. -/
def Obligations.LookupFindsTheMatch : Prop :=
  ∀ (s : State) (ifx : Byte) (src dst ports : Word), s.lock = .held s.tid →
    s.a[0] = some src → s.a[1] = some dst → s.a[2] = some ports →
    (s.par.nIf ≤ ifx.toNat → exec (.lookupt ifx) s = .next (refused s .badOperand) ∧
      exec (.lookupu ifx) s = .next (refused s .badOperand)) ∧
    let sp : Half := ports.extractLsb' 16 16
    let dp : Half := ports.extractLsb' 0 16
    (ifx.toNat < s.par.nIf →
      (∀ n, tcpMatch s ifx src dst sp dp n →
        exec (.lookupt ifx) s = .next { s with r0 := BitVec.ofNat 32 n, st := 0 }) ∧
      ((∀ n, ¬ tcpMatch s ifx src dst sp dp n) →
        exec (.lookupt ifx) s = .next { dropped s .portUnreachable with r0 := 0xFFFFFFFF }) ∧
      (∀ n, udpMatch s ifx src dst sp dp n →
        exec (.lookupu ifx) s = .next { s with r0 := BitVec.ofNat 32 n, st := 0 }) ∧
      ((∀ n, ¬ udpMatch s ifx src dst sp dp n) →
        exec (.lookupu ifx) s = .next { dropped s .portUnreachable with r0 := 0xFFFFFFFF }))

/-! The IP layer. -/

/-- 41_ip_admission.md R151 to R161: the first test that fails decides the cause, and nothing but `R0`, `ST` and its
counter is written. -/
def Obligations.IprxFirstFailingTestDrops : Prop :=
  ∀ (s : State) (ifx : Byte) (addr n : Word), s.lock = .held s.tid → ifx.toNat < s.par.nIf →
    s.a[0] = some addr → s.a[1] = some n →
    let p := memRead s.mem addr n.toNat
    let f := s.iface ifx.toNat
    let total := (be16 p 2).toNat
    let src := be32 p 12
    let dst := be32 p 16
    let drops (c : Cause) : Prop := exec (.iprx ifx) s = .next (refused s c)
    if p.length < 20 then drops .ipTooShort
    else if byteAt p 0 >>> 4 ≠ 4 then drops .ipBadVersion
    else if ihl p < 5 then drops .ipBadHlen
    else if total < headerLen p then drops .ipBadTotlen
    else if p.length < total then drops .ipTruncated
    else
      (broadcastOn f src ∨ multicast src → drops .ipBadSrc) ∧
      (wellMade f p →
        ((∃ e, ownedBy f dst e ∧ e.status = .tentative) → drops .ipTentative) ∧
        ((¬ ∃ e, ownedBy f dst e) → ¬ localTo f dst → s.par.forwarding = false → drops .ipNotLocal) ∧
        (localTo f dst → checksum s.par (p.take (headerLen p)) ≠ 0 → drops .ipBadChecksum))

/-- 41_ip_admission.md R154, R158, R160: an admitted packet, trimmed to its total length, is forwarded, demultiplexed
or handed to reassembly. -/
def Obligations.IprxDispatchesAdmitted : Prop :=
  ∀ (s : State) (ifx : Byte) (addr n : Word), s.lock = .held s.tid → ifx.toNat < s.par.nIf →
    s.a[0] = some addr → s.a[1] = some n →
    let p := memRead s.mem addr n.toNat
    let f := s.iface ifx.toNat
    let d := p.take (be16 p 2).toNat
    let s1 := { s with r0 := 0 }
    wellMade f p →
    ((¬ ∃ e, ownedBy f (be32 p 16) e) → ¬ localTo f (be32 p 16) → s.par.forwarding = true →
      exec (.iprx ifx) s = .next { s1 with
        st := 0x18, upq := s.upq ++ [⟨.forward, ifx, be32 p 12, be32 p 16, byteAt p 9, d⟩] }) ∧
    (localTo f (be32 p 16) → checksum s.par (p.take (headerLen p)) = 0 →
      (be16 p 6 &&& 0x3FFF = 0 → ∃ t, exec (.ipdemux ifx d) s1 = .next t ∧ exec (.iprx ifx) s = .next t) ∧
      (be16 p 6 &&& 0x3FFF ≠ 0 → ∃ t, exec (.reasm ifx d) s1 = .next t ∧ exec (.iprx ifx) s = .next t))

/-- 41_ip_admission.md R170 to R172: a datagram that fits goes out as one packet, one that does not goes to IPFRAG
under the identification taken from the counter. -/
def Obligations.IptxSendsOrFragments : Prop :=
  ∀ (s : State) (ifx proto : Byte) (tab off len src dst cnt w : Word), s.lock = .held s.tid →
    ifx.toNat < s.par.nIf → s.a[0] = some tab → s.a[1] = some off → s.a[2] = some len → s.a[3] = some src →
    s.a[4] = some dst → s.a[5] = some cnt → s.a[6] = some w →
    let pay := clipped (chunkBytes s.mem tab cnt.toNat) off len
    let ttl : Byte := w.extractLsb' 8 8
    let tos : Byte := w.extractLsb' 0 8
    let f := s.iface ifx.toNat
    let ifs := s.ifs.set ifx.toNat { f with ipId := f.ipId + 1 }
    let e : TxEntry := ⟨ifx, dst, ttl, tos, packet s.par tos f.ipId 0 ttl proto src dst pay⟩
    (f.mtu = 0 → exec (.iptx ifx proto) s = .next (refused s .txBadMtu)) ∧
    (f.mtu ≠ 0 → 65535 < 20 + pay.length → exec (.iptx ifx proto) s = .next (refused s .badOperand)) ∧
    (f.mtu ≠ 0 → 20 + pay.length ≤ f.mtu.toNat →
      exec (.iptx ifx proto) s = .next
        (if linkAnswer s then { linkAsked s with ifs := ifs, txq := s.txq ++ [e], r0 := 1, st := 0 }
         else { linkAsked s with ifs := ifs, r0 := 0, st := 0x29, cnt := bump s.cnt .txFail })) ∧
    (f.mtu ≠ 0 → 20 + pay.length ≤ 65535 → f.mtu.toNat < 20 + pay.length →
      ∃ t, exec (.ipfrag ifx tos f.ipId ttl proto src dst pay) { s with ifs := ifs, r0 := 0 } = .next t ∧
        exec (.iptx ifx proto) s = .next t)

/-- 42_frag_reassembly.md R180 to R183: the fragments cover the payload in order; the first the link refuses ends the
operation, with the ones before it sent. -/
def Obligations.IpfragCoversPayload : Prop :=
  ∀ (s : State) (ifx tos : Byte) (id : Half) (ttl proto : Byte) (src dst : Word) (pay : Bytes),
    ifx.toNat < s.par.nIf →
    let i : Instr := .ipfrag ifx tos id ttl proto src dst pay
    let mtu := (s.iface ifx.toNat).mtu.toNat
    let m := (mtu - 20) / 8 * 8
    let e := fragment s.par ifx tos id ttl proto src dst m pay
    (mtu < 28 → exec i s = .next (refused s .txBadMtu)) ∧
    (28 ≤ mtu →
      (∀ rest, s.link = List.replicate (pieces m pay) true ++ rest →
        exec i s = .next { s with
          txq := s.txq ++ (List.range (pieces m pay)).map e, link := rest
          r0 := BitVec.ofNat 32 (pieces m pay), st := 0 }) ∧
      ∀ (j : Nat) (rest : List Bool), j < pieces m pay → s.link = List.replicate j true ++ false :: rest →
        exec i s = .next { s with
          txq := s.txq ++ (List.range j).map e, link := rest
          r0 := BitVec.ofNat 32 j, st := 0x29, cnt := bump s.cnt .txFail })

/-- 41_ip_admission.md R165 to R167: the hand-off to the collaborator the protocol names, the report for an unknown
one, and TCPRX with the report for a segment that matches no record. -/
def Obligations.IpdemuxSelectsHandler : Prop :=
  ∀ (s : State) (ifx : Byte) (d : Bytes), ifx.toNat < s.par.nIf →
    let src := be32 d 12
    let dst := be32 d 16
    let proto := byteAt d 9
    let pay := d.drop (headerLen d)
    (∀ kind, (proto, kind) ∈ [((17 : Byte), UpKind.udp), (1, .icmp), (2, .igmp)] →
      exec (.ipdemux ifx d) s =
        .next { s with upq := s.upq ++ [⟨kind, ifx, src, dst, proto, pay⟩], st := 0x1B }) ∧
    (proto ∉ [(1 : Byte), 2, 6, 17] →
      exec (.ipdemux ifx d) s =
        .next { dropped s .ipUnknownProto with icmpq := s.icmpq ++ [⟨ifx, 3, 2, 0, d⟩] }) ∧
    (proto = 6 → ∃ t, exec (.tcprx ifx src dst pay) s = .next t ∧
      exec (.ipdemux ifx d) s =
        .next (if t.st = 0x30 then { t with icmpq := t.icmpq ++ [⟨ifx, 3, 3, 0, d⟩] } else t))

/-! Reassembly. -/

/-- 42_frag_reassembly.md R186 to R193: one fragment is refused, merged, or completes its datagram, which enters the
demultiplexer before its slot is released. -/
def Obligations.ReasmMergesOrCompletes : Prop :=
  ∀ (s : State) (ifx : Byte) (d : Bytes), ifx.toNat < s.par.nIf →
    let i := ifx.toNat
    let f := s.iface i
    let put (t : State) (j : Nat) (g : Slot) : State :=
      { t with ifs := t.ifs.set i { t.iface i with frag := (t.iface i).frag.set j g } }
    (moreFragments d = true → (d.length - headerLen d) % 8 ≠ 0 →
      exec (.reasm ifx d) s = .next (dropped s .reasmBadLen)) ∧
    (moreFragments d = false ∨ (d.length - headerLen d) % 8 = 0 →
      ((∀ x ∈ f.frag, x.inUse = true ∧ ¬ keyIs x d) → exec (.reasm ifx d) s = .next (dropped s .reasmNoSlot)) ∧
      ∀ (j : Nat) (g : Slot), slotFor f.frag s.now d j g →
        (s.par.reasmMaxPayload < dataLast d →
          exec (.reasm ifx d) s = .next (put (dropped s .reasmTooBig) j Slot.reset)) ∧
        (dataLast d ≤ s.par.reasmMaxPayload → g.data.length = g.dataLen → headerLen d ≤ d.length →
          let h := mergedInto d g
          (h.holes ≠ [] → exec (.reasm ifx d) s = .next { put s j h with st := 0x23 }) ∧
          (h.holes = [] → 20 ≤ h.hdr.length →
            ∃ t, exec (.ipdemux ifx (wholeDatagram h)) (put s j h) = .next t ∧
              exec (.reasm ifx d) s = .next (put t j Slot.reset))))

/-- 42_frag_reassembly.md R190, 10_state.md R41: after the walk a byte is missing iff it was missing and the fragment
neither brought it nor, being final, lies before it in the same hole; the list stays in order. -/
def Obligations.HoleWalkKeepsMissingBytes : Prop :=
  ∀ (first last : Nat) (final : Bool) (hs : List Hole), first ≤ last →
    (∀ p : Nat, (∃ h ∈ splitHoles first last final hs, inHole h p) ↔
      ∃ h ∈ hs, inHole h p ∧ (¬ overlaps first last h ∨ p < first ∨ (last ≤ p ∧ final = false))) ∧
    (holesInOrder hs → holesInOrder (splitHoles first last final hs))

/-- 42_frag_reassembly.md R194: fragments of one payload, in any order, with any duplicates and overlaps, complete a
slot exactly when every byte has come, and then the slot holds the payload and the header of fragment zero. -/
def Obligations.ReassemblyInAnyOrderRestoresPayload : Prop :=
  ∀ (key : FragKey) (now : Word) (h p : Bytes) (ds : List Bytes), p ≠ [] → (∀ d ∈ ds, fragmentOf h p d) →
    let g := ds.foldl (fun g d => mergeSlot d (growSlot d (captureHeader d g))) (openedSlot key now)
    (g.holes = [] ↔ ∀ x < p.length, ∃ d ∈ ds, dataFirst d ≤ x ∧ x < dataLast d) ∧
    (g.holes = [] → g.data = p ∧ g.dataLen = p.length ∧ g.hdr = h)

/-! The TCP state machine. -/

/-- 44_tcp_fsm.md R220, R223: malformed segments never reach the state machine; a matched one is handed to the
operation its record's state selects, and `R0` is the matched index at the end. -/
def Obligations.TcprxValidatesThenDispatches : Prop :=
  ∀ (s : State) (ifx : Byte) (src dst : Word) (b : Bytes), ifx.toNat < s.par.nIf → s.par.legal = true → sized s →
    let doff := (byteAt b 12 >>> 4).toNat
    let g := parseSegment b
    let drops (c : Cause) : Prop :=
      exec (.tcprx ifx src dst b) s = .next { dropped s c with r0 := 0xFFFFFFFF }
    if b.length < 20 then drops .tcpTooShort
    else if doff < 5 ∨ b.length < doff * 4 then drops .tcpBadOffset
    else if segmentSum s.par src dst b ≠ 0 then drops .tcpBadChecksum
    else
      ((∀ n, ¬ tcpMatch s ifx src dst g.srcPort g.dstPort n) → drops .portUnreachable) ∧
      ∀ n, tcpMatch s ifx src dst g.srcPort g.dstPort n →
        ∃ op t, decode (.state (s.sock n).state.code (BitVec.ofNat 8 n) ifx src dst g) = .ok op ∧
          exec op { s with r0 := BitVec.ofNat 32 n, st := 0 } = .next t ∧
          exec (.tcprx ifx src dst b) s = .next { t with r0 := BitVec.ofNat 32 n }

/-- 44_tcp_fsm.md R221, 30_encoding.md R94 to R96: the fields of a segment, and the option scan step by step. -/
def Obligations.ParseReadsSegment : Prop :=
  (∀ b : Bytes, 20 ≤ b.length → let g := parseSegment b
    g.srcPort = be16 b 0 ∧ g.dstPort = be16 b 2 ∧ g.seq = be32 b 4 ∧ g.ack = be32 b 8 ∧
    g.flags.setWidth 8 = byteAt b 13 &&& 0x3F ∧ g.wnd = be16 b 14 ∧
    g.pay = b.drop ((byteAt b 12 >>> 4).toNat * 4) ∧
    ∀ o, o = (b.take ((byteAt b 12 >>> 4).toNat * 4)).drop 20 → g.mssOpt = scanMss o.length o) ∧
  (let scan (o : Bytes) : Option Half := scanMss o.length o
   scan [] = none ∧ (∀ o, scan (0 :: o) = none) ∧ (∀ o, scan (1 :: o) = scan o) ∧
   (∀ k : Byte, k ≠ 1 → scan [k] = none) ∧
   (∀ a b o, scan (2 :: 4 :: a :: b :: o) = some (a ++ b)) ∧
   (∀ (k n : Byte) (o : Bytes), k ≠ 0 → k ≠ 1 →
     (n.toNat < 2 ∨ o.length + 2 < n.toNat → scan (k :: n :: o) = none) ∧
     (2 ≤ n.toNat → n.toNat ≤ o.length + 2 → ¬ (k = 2 ∧ n = 4) →
       scan (k :: n :: o) = scan (o.drop (n.toNat - 2)))))

/-- 44_tcp_fsm.md R240, R241, R222: CLOSED answers with a reset; LISTEN refuses an ACK, queues a new SYN, evicting the
oldest where the backlog is full, and transmits nothing for it. -/
def Obligations.ClosedAndListenResults : Prop :=
  ∀ (s : State) (sock ifx : Byte) (src dst : Word) (seg : Segment), indexed s sock ifx → s.par.legal = true →
    let k := s.sock sock.toNat
    let closed : Instr := .tcpsClosed sock ifx src dst seg
    let listen : Instr := .tcpsListen sock ifx src dst seg
    let resets (i : Instr) (c : Cause) : Prop :=
      ∃ t, exec i s = .next t ∧ t.st = c.code ∧ t.socks = s.socks ∧ quiet [] (some c) s t ∧
        oneSegment s t ifx dst src (resetTo seg)
    let same (e : SynEntry) : Prop := e.srcAddr = .v4 src ∧ e.destAddr = .v4 dst ∧ e.srcPort = seg.srcPort
    let e : SynEntry := ⟨ifx, .v4 src, .v4 dst, seg.srcPort, seg.seq, clampedMss s.par seg⟩
    let s1 : State := { s with evq := s.evq ++ [⟨sock, .connPending⟩], st := 0 }
    if has seg flagRST then
      exec closed s = .next (dropped s .tcpIgnored) ∧ exec listen s = .next (dropped s .tcpIgnored)
    else
      resets closed .tcpClosedRst ∧
      if has seg flagACK then resets listen .tcpBadAck
      else if has seg flagSYN = false then exec listen s = .next (dropped s .tcpIgnored)
      else
        ((∃ x ∈ k.synq, same x) → exec listen s = .next (dropped s .tcpDupSyn)) ∧
        ((∀ x ∈ k.synq, ¬ same x) →
          (k.synq.length < k.synqMax.toNat → exec listen s = .next { s1 with
            socks := s.socks.set sock.toNat { k with synq := k.synq ++ [e] } }) ∧
          (k.synqMax.toNat ≤ k.synq.length → exec listen s = .next { s1 with
            socks := s.socks.set sock.toNat { k with synq := k.synq.tail ++ [e] }
            cnt := bump s.cnt .synqEvicted }))

/-- 44_tcp_fsm.md R242, R257: SYN-SENT becomes ESTABLISHED with exactly one ACK on a SYN that acknowledges ours, and
SYN-RECEIVED with exactly one SYN+ACK on one that does not. The `ifx` of a record kept in CLOSED is the model's choice
(log 27). -/
def Obligations.SynSentResults : Prop :=
  ∀ (s : State) (sock ifx : Byte) (src dst : Word) (seg : Segment), indexed s sock ifx → s.par.legal = true →
    let k := s.sock sock.toNat
    let op : Instr := .tcpsSynSent sock ifx src dst seg
    let base : Sock := { k with
      irs := seg.seq, rcvNxt := seg.seq + 1, mss := clampedMss s.par seg, rto := rtoAnswer s
      sndWnd := seg.wnd, maxSndWnd := widest k.maxSndWnd seg.wnd }
    if has seg flagACK = true ∧ seg.ack ≠ k.sndNxt then
      if has seg flagRST then exec op s = .next (dropped s .tcpBadAck)
      else ∃ t, exec op s = .next t ∧ t.st = 0x44 ∧ t.socks = s.socks ∧ quiet [] (some .tcpBadAck) s t ∧
        oneSegment s t ifx dst src (resetTo seg)
    else if has seg flagRST then
      exec op s = .next
        (if has seg flagACK then { s with socks := s.socks.set sock.toNat (closedFrom true k), st := 0x48 }
         else dropped s .tcpIgnored)
    else if has seg flagSYN = false then exec op s = .next (dropped s .tcpIgnored)
    else ∃ t, exec op s = .next t ∧ t.st = 0 ∧ quiet [sock.toNat] none s t ∧
      if has seg flagACK then
        t.sock sock.toNat = { base with sndUna := seg.ack, state := .established } ∧
        oneSegment (rtoAsked s) t k.ifx k.localAddr.word k.remoteAddr.word (ackOf s.par base)
      else
        t.sock sock.toNat = { base with state := .synRcvd } ∧
        oneSegment (rtoAsked s) t k.ifx k.localAddr.word k.remoteAddr.word
          (segmentFrom s.par base (flagSYN ||| flagACK) base.iss base.rcvNxt)

/-- 44_tcp_fsm.md R225 to R228, R237, 60_exceptions.md R319: the checks of the synchronized states, in their order.
The `ifx` of a record kept in CLOSED is the model's choice (log 27). -/
def Obligations.SynchronizedChecksInOrder : Prop :=
  ∀ (s : State) (sock ifx : Byte) (src dst : Word) (seg : Segment), indexed s sock ifx →
    let k := s.sock sock.toNat
    ∀ op ∈ synchronizedOps sock ifx src dst seg,
      (¬ inWindow k seg →
        if has seg flagRST then exec op s = .next (dropped s .tcpSeqUnacceptable)
        else ∃ t, exec op s = .next t ∧ t.st = 0x43 ∧ t.socks = s.socks ∧
          quiet [] (some .tcpSeqUnacceptable) s t ∧
          oneSegment s t k.ifx k.localAddr.word k.remoteAddr.word (ackOf s.par k)) ∧
      (inWindow k seg → has seg flagRST = true →
        exec op s = .next { s with socks := s.socks.set sock.toNat (closedFrom true k), st := 0x48 }) ∧
      (inWindow k seg → has seg flagRST = false → has seg flagSYN = true →
        ∃ t, exec op s = .next t ∧ t.st = 0x45 ∧
          t.sock sock.toNat = (if s.par.synCheckCloses then closedFrom true k else k) ∧
          quiet [sock.toNat] (some .tcpSynInWindow) s t ∧ oneSegment s t ifx dst src (resetTo seg)) ∧
      (passes k seg → has seg flagACK = false → exec op s = .next (dropped s .tcpIgnored)) ∧
      (op ∈ dataOps sock ifx src dst seg ∨ op = .tcpsClosing sock ifx src dst seg →
        passes k seg → has seg flagACK = true → seqGT seg.ack k.sndNxt = true →
        ∃ t, exec op s = .next t ∧ t.st = 0x44 ∧ t.socks = s.socks ∧ quiet [] (some .tcpBadAck) s t ∧
          oneSegment s t k.ifx k.localAddr.word k.remoteAddr.word (ackOf s.par k))

/-- 44_tcp_fsm.md R243: SYN-RECEIVED falls through into ESTABLISHED on the acknowledgement of our SYN. -/
def Obligations.SynRcvdFallsThrough : Prop :=
  ∀ (s : State) (sock ifx : Byte) (src dst : Word) (seg : Segment), indexed s sock ifx →
    let k := s.sock sock.toNat
    let op : Instr := .tcpsSynRcvd sock ifx src dst seg
    let g : Sock := { k with
      sndWnd := seg.wnd, maxSndWnd := widest k.maxSndWnd seg.wnd, state := .established }
    passes k seg → has seg flagACK = true →
    (seg.ack = k.sndNxt → ∃ t, exec op s = .next t ∧
      exec (.tcpsEstablished sock ifx src dst seg) { s with socks := s.socks.set sock.toNat g } = .next t) ∧
    (seg.ack ≠ k.sndNxt → ∃ t, exec op s = .next t ∧ t.st = 0x44 ∧ t.socks = s.socks ∧
      quiet [] (some .tcpBadAck) s t ∧ oneSegment s t ifx dst src (resetTo seg))

/-- 44_tcp_fsm.md R228, R244, R247: a pure acknowledgement changes the send fields only, and moves FIN-WAIT-1 on when
it acknowledges our FIN. -/
def Obligations.PureAckResults : Prop :=
  ∀ (s : State) (sock ifx : Byte) (src dst : Word) (seg : Segment), indexed s sock ifx →
    let k := s.sock sock.toNat
    passesAck k seg → seg.pay = [] → has seg flagFIN = false → k.ackPending = false →
    ∀ op ∈ dataOps sock ifx src dst seg,
      exec op s = .next { s with
        socks := s.socks.set sock.toNat
          (if op = .tcpsFinWait1 sock ifx src dst seg ∧ seg.ack = k.sndNxt then
            { afterAck seg k with state := .finWait2, tFw2 := ⟨true, s.now⟩ }
           else afterAck seg k)
        st := 0 }

/-- 44_tcp_fsm.md R229, R231, R238, R244, R245, R247, R248: the payload bytes from `rcvNxt` on that fit the window
reach the receive queue, and so does what waited behind them, with one DATA_READY, and one ACK unless the hook defers
it; in FIN-WAIT-1 the acknowledgement of our FIN moves the record on as well. A FIN that these bytes do not reach, or
in CLOSE-WAIT, changes nothing. -/
def Obligations.InOrderDataIsDelivered : Prop :=
  ∀ (s : State) (sock ifx : Byte) (src dst : Word) (seg : Segment), indexed s sock ifx →
    let k := s.sock sock.toNat
    let old := (k.rcvNxt - seg.seq).toNat
    let new := freshBytes k seg
    passesAck k seg → segmentOk seg = true → old < seg.pay.length → oooInv s.par k →
    ∀ run : Bytes, waitsFrom k (k.rcvNxt + BitVec.ofNat 32 new.length) run →
    ∀ op ∈ dataOps sock ifx src dst seg,
      has seg flagFIN = false ∨ op = .tcpsCloseWait sock ifx src dst seg ∨
        old + new.length + run.length ≠ seg.pay.length →
      let base := if op = .tcpsFinWait1 sock ifx src dst seg ∧ seg.ack = k.sndNxt then finAckedBy s.now seg k
        else afterAck seg k
      let g : Sock := { takenIn (new ++ run) base with ackPending := deferAnswer s }
      ∃ t, exec op s = .next t ∧ t.st = 0 ∧ t.sock sock.toNat = g ∧ tcpFrame [sock.toNat] none s t ∧
        t.evq = s.evq ++ [⟨sock, .dataReady⟩] ∧
        if deferAnswer s then noSegment s t
        else oneSegment (deferAsked s) t k.ifx k.localAddr.word k.remoteAddr.word (ackOf s.par g)

/-- 44_tcp_fsm.md R229 to R231, R244, R245, R247, R248: the payload bytes past a gap that fit the window wait under
their sequence numbers, over what waited there before, or are forgotten where `TCP_OOO` is drop; no event is signalled,
a FIN past the gap is ignored, and the acknowledgement carries the unchanged `rcvNxt` unless the hook defers it. -/
def Obligations.OutOfOrderDataWaits : Prop :=
  ∀ (s : State) (sock ifx : Byte) (src dst : Word) (seg : Segment), indexed s sock ifx →
    let k := s.sock sock.toNat
    let gap := (seg.seq - k.rcvNxt).toNat
    let new := seg.pay.take (k.rcvWnd.toNat - gap)
    passesAck k seg → segmentOk seg = true → seg.pay ≠ [] → 0 < gap → gap < k.rcvWnd.toNat → oooInv s.par k →
    (∀ x ∈ k.ooo, x.1 ≠ k.rcvNxt) →
    ∀ op ∈ dataOps sock ifx src dst seg,
      let base := if op = .tcpsFinWait1 sock ifx src dst seg ∧ seg.ack = k.sndNxt then finAckedBy s.now seg k
        else afterAck seg k
      ∃ t held, exec op s = .next t ∧ t.st = 0 ∧
        t.sock sock.toNat = { base with ooo := held, ackPending := deferAnswer s } ∧
        (s.par.tcpOoo = .drop → held = []) ∧
        (s.par.tcpOoo = .buffer → held.Pairwise (fun x y => x.1 < y.1) ∧
          ∀ q b, (q, b) ∈ held ↔
            (∃ j < new.length, q = seg.seq + BitVec.ofNat 32 j ∧ b = byteAt new j) ∨
            ((q, b) ∈ k.ooo ∧ new.length ≤ (q - seg.seq).toNat)) ∧
        quiet [sock.toNat] none s t ∧
        if deferAnswer s then noSegment s t
        else oneSegment (deferAsked s) t k.ifx k.localAddr.word k.remoteAddr.word (ackOf s.par k)

/-- 44_tcp_fsm.md R229, R230, R235, R244, R247, R248: a FIN at `rcvNxt`, or behind payload of its own segment that
fits the window and reaches it, is passed, acknowledged at once with exactly one ACK, and moves the record on; the
payload is delivered with it. -/
def Obligations.FinMovesTheRecordOn : Prop :=
  ∀ (s : State) (sock ifx : Byte) (src dst : Word) (seg : Segment), indexed s sock ifx →
    let k := s.sock sock.toNat
    let old := (k.rcvNxt - seg.seq).toNat
    let new := seg.pay.drop old
    let passed (base : Sock) : Sock :=
      { takenIn new base with rcvNxt := k.rcvNxt + BitVec.ofNat 32 new.length + 1, ackPending := false }
    let g := passed (afterAck seg k)
    let ends (op : Instr) (after : Sock) : Prop :=
      ∃ t, exec op s = .next t ∧ t.st = 0 ∧ t.sock sock.toNat = after ∧ tcpFrame [sock.toNat] none s t ∧
        t.evq = s.evq ++ (if new = [] then [] else [⟨sock, .dataReady⟩]) ∧
        oneSegment s t k.ifx k.localAddr.word k.remoteAddr.word (ackOf s.par g)
    passesAck k seg → segmentOk seg = true → has seg flagFIN = true → old ≤ seg.pay.length →
    new.length ≤ k.rcvWnd.toNat → oooInv s.par k →
    waitsFrom k (k.rcvNxt + BitVec.ofNat 32 new.length) [] →
    ends (.tcpsEstablished sock ifx src dst seg) { g with state := .closeWait } ∧
    ends (.tcpsFinWait2 sock ifx src dst seg) (waitFrom s.now g) ∧
    (seg.ack ≠ k.sndNxt → ends (.tcpsFinWait1 sock ifx src dst seg)
      (if k.state = .finWait2 then waitFrom s.now g else { g with state := .closing })) ∧
    (seg.ack = k.sndNxt → ends (.tcpsFinWait1 sock ifx src dst seg) (waitFrom s.now g))

/-- 44_tcp_fsm.md R246, R249, R250: LAST-ACK, CLOSING and TIME-WAIT. A segment that fails a check ends the first two as
it ends ESTABLISHED (R237). The `ifx` of a record kept in CLOSED is the model's choice (log 27). -/
def Obligations.ClosingStatesResults : Prop :=
  ∀ (s : State) (sock ifx : Byte) (src dst : Word) (seg : Segment), indexed s sock ifx →
    let k := s.sock sock.toNat
    let last : Instr := .tcpsLastAck sock ifx src dst seg
    let closing : Instr := .tcpsClosing sock ifx src dst seg
    let wait : Instr := .tcpsTimeWait sock ifx src dst seg
    let checked : Instr := .tcpsEstablished sock ifx src dst seg
    let put (g : Sock) : State := { s with socks := s.socks.set sock.toNat g }
    (¬ passes k seg → ∃ t, exec checked s = .next t ∧ exec last s = .next t) ∧
    (passes k seg →
      exec last s = .next
        (if has seg flagACK = true ∧ seg.ack = k.sndNxt then { put (closedFrom false k) with st := 0 }
         else dropped s .tcpIgnored)) ∧
    (¬ passesAck k seg → ∃ t, exec checked s = .next t ∧ exec closing s = .next t) ∧
    (passesAck k seg →
      exec closing s = .next
        (if seg.ack = k.sndNxt then { put (waitFrom s.now (afterAck seg k)) with st := 0 }
         else dropped (put (afterAck seg k)) .tcpIgnored)) ∧
    (if has seg flagRST then exec wait s = .next { put (closedFrom true k) with st := 0x48 }
     else if has seg flagFIN = true ∧ seg.seq + BitVec.ofNat 32 seg.pay.length = k.rcvNxt - 1 then
      ∃ t, exec wait s = .next t ∧ t.st = 0 ∧ t.sock sock.toNat = { k with t2msl := ⟨true, s.now⟩ } ∧
        quiet [sock.toNat] none s t ∧
        oneSegment s t k.ifx k.localAddr.word k.remoteAddr.word (ackOf s.par k)
     else exec wait s = .next (dropped s .tcpIgnored))

/-- 44_tcp_fsm.md R223, R257, R258: a state operation writes its own record only, counts at most one cause beside
those of the send path, signals at most one event, and hands at most one packet to the link. -/
def Obligations.StateOperationsFrame : Prop :=
  ∀ (s t : State) (sock ifx : Byte) (src dst : Word) (seg : Segment),
    ∀ op ∈ stateOps sock ifx src dst seg, exec op s = .next t →
      (∃ c, tcpFrame [sock.toNat] c s t) ∧
      (t.evq = s.evq ∨ ∃ ev, t.evq = s.evq ++ [⟨sock, ev⟩]) ∧
      ((∀ f ∈ s.ifs, f.mtu = 0 ∨ 68 ≤ f.mtu.toNat) → ∃ l, t.txq = s.txq ++ l ∧ l.length ≤ 1)

/-! Invariants, and what the whole machine keeps. -/

/-- 30_encoding.md R120, 60_exceptions.md R312: only the causes that end by `drop` have a counter that moves. -/
def Obligations.OnlyDropsAreCounted : Prop :=
  ∀ (i : Instr) (s t : State) (b : Byte), exec i s = .next t →
    t.cnt[b.toNat]'b.isLt ≠ s.cnt[b.toNat]'b.isLt → ∃ c : Cause, c.counted = true ∧ c.code = b

/-- 10_state.md R50, 45_host_ops.md R288: entries leave a queue by DRAIN only, and join it at its end. -/
def Obligations.QueuesShrinkOnlyByDrain : Prop :=
  ∀ (i : Instr) (s t : State), exec i s = .next t → (∀ q, i ≠ .drain q) →
    s.txq <+: t.txq ∧ s.icmpq <+: t.icmpq ∧ s.evq <+: t.evq ∧ s.upq <+: t.upq

/-- 10_state.md R60, R31, R40, R43: the reset state, for all parameters, meets the invariants below. The canonical form
of memory is the model's choice (log 2), and so are the port, which is empty, and its inputs (log 3, 4). -/
def Obligations.ResetMeetsInvariants : Prop :=
  ∀ p : Params, Memory.wf (State.resetWith p).mem = true ∧ tablesInv (State.resetWith p) ∧
    socksInv (State.resetWith p) ∧ hostOnly (State.resetWith p)

/-- Buffer memory keeps its canonical form, whatever is presented (log 2). -/
def Obligations.StepKeepsMemoryForm : Prop :=
  ∀ s t : State, Memory.wf s.mem = true → step s = .next t → Memory.wf t.mem = true

/-- 10_state.md R40, R43: the slot invariants hold after every step a host can cause, what a host can present being
said of the model's port (log 3, 4). -/
def Obligations.StepKeepsSlotInvariants : Prop :=
  ∀ s t : State, hostOnly s → tablesInv s → step s = .next t → tablesInv t

/-- 10_state.md R31, R32, R35, R37: the record invariants hold after every step a host can cause, what a host can
present being said of the model's port (log 3, 4). `rcvNxt` is no key
of `ooo` in the three states that can still receive; after a FIN a key can come to equal it (log 21). -/
def Obligations.StepKeepsRecordInvariants : Prop :=
  ∀ s t : State, hostOnly s → s.par.legal = true → socksInv s → step s = .next t → socksInv t

/-- 44_tcp_fsm.md R256: no step a host can cause moves a record between states that the table does not join, what a
host can present being said of the model's port (log 3, 4). -/
def Obligations.StateChangesAreListed : Prop :=
  ∀ s t : State, hostOnly s → s.par.legal = true → socksInv s → step s = .next t →
    ∀ j : Nat, transition (s.sock j).state (t.sock j).state = true

end
end

