-- ==== Sys2Proof/Laws/State.lean ====
section
/-! SUPPORT. One lemma per field per update of State: what each named update leaves alone and what it writes. -/

namespace Sys2Proof.Machine

variable (s : State)


/-! `setR0` -/

@[simp] theorem setR0_a (v : Word) : (setR0 s v).a = s.a := rfl
@[simp] theorem setR0_r0 (v : Word) : (setR0 s v).r0 = v := rfl
@[simp] theorem setR0_st (v : Word) : (setR0 s v).st = s.st := rfl
@[simp] theorem setR0_cmd (v : Word) : (setR0 s v).cmd = s.cmd := rfl
@[simp] theorem setR0_tid (v : Word) : (setR0 s v).tid = s.tid := rfl
@[simp] theorem setR0_lock (v : Word) : (setR0 s v).lock = s.lock := rfl
@[simp] theorem setR0_now (v : Word) : (setR0 s v).now = s.now := rfl
@[simp] theorem setR0_ifs (v : Word) : (setR0 s v).ifs = s.ifs := rfl
@[simp] theorem setR0_socks (v : Word) : (setR0 s v).socks = s.socks := rfl
@[simp] theorem setR0_txq (v : Word) : (setR0 s v).txq = s.txq := rfl
@[simp] theorem setR0_icmpq (v : Word) : (setR0 s v).icmpq = s.icmpq := rfl
@[simp] theorem setR0_evq (v : Word) : (setR0 s v).evq = s.evq := rfl
@[simp] theorem setR0_upq (v : Word) : (setR0 s v).upq = s.upq := rfl
@[simp] theorem setR0_cnt (v : Word) : (setR0 s v).cnt = s.cnt := rfl
@[simp] theorem setR0_par (v : Word) : (setR0 s v).par = s.par := rfl
@[simp] theorem setR0_mem (v : Word) : (setR0 s v).mem = s.mem := rfl
@[simp] theorem setR0_port (v : Word) : (setR0 s v).port = s.port := rfl
@[simp] theorem setR0_link (v : Word) : (setR0 s v).link = s.link := rfl
@[simp] theorem setR0_rtoIn (v : Word) : (setR0 s v).rtoIn = s.rtoIn := rfl
@[simp] theorem setR0_deferIn (v : Word) : (setR0 s v).deferIn = s.deferIn := rfl
@[simp] theorem setR0_free (v : Word) : (setR0 s v).free = s.free := rfl
@[simp] theorem setR0_out (v : Word) : (setR0 s v).out = s.out := rfl

/-! `setOut` -/

@[simp] theorem setOut_a (o : Output) : (setOut s o).a = s.a := rfl
@[simp] theorem setOut_r0 (o : Output) : (setOut s o).r0 = s.r0 := rfl
@[simp] theorem setOut_st (o : Output) : (setOut s o).st = s.st := rfl
@[simp] theorem setOut_cmd (o : Output) : (setOut s o).cmd = s.cmd := rfl
@[simp] theorem setOut_tid (o : Output) : (setOut s o).tid = s.tid := rfl
@[simp] theorem setOut_lock (o : Output) : (setOut s o).lock = s.lock := rfl
@[simp] theorem setOut_now (o : Output) : (setOut s o).now = s.now := rfl
@[simp] theorem setOut_ifs (o : Output) : (setOut s o).ifs = s.ifs := rfl
@[simp] theorem setOut_socks (o : Output) : (setOut s o).socks = s.socks := rfl
@[simp] theorem setOut_txq (o : Output) : (setOut s o).txq = s.txq := rfl
@[simp] theorem setOut_icmpq (o : Output) : (setOut s o).icmpq = s.icmpq := rfl
@[simp] theorem setOut_evq (o : Output) : (setOut s o).evq = s.evq := rfl
@[simp] theorem setOut_upq (o : Output) : (setOut s o).upq = s.upq := rfl
@[simp] theorem setOut_cnt (o : Output) : (setOut s o).cnt = s.cnt := rfl
@[simp] theorem setOut_par (o : Output) : (setOut s o).par = s.par := rfl
@[simp] theorem setOut_mem (o : Output) : (setOut s o).mem = s.mem := rfl
@[simp] theorem setOut_port (o : Output) : (setOut s o).port = s.port := rfl
@[simp] theorem setOut_link (o : Output) : (setOut s o).link = s.link := rfl
@[simp] theorem setOut_rtoIn (o : Output) : (setOut s o).rtoIn = s.rtoIn := rfl
@[simp] theorem setOut_deferIn (o : Output) : (setOut s o).deferIn = s.deferIn := rfl
@[simp] theorem setOut_free (o : Output) : (setOut s o).free = s.free := rfl
@[simp] theorem setOut_out (o : Output) : (setOut s o).out = o := rfl

/-! `setLock` -/

@[simp] theorem setLock_a (l : Lock) : (setLock s l).a = s.a := rfl
@[simp] theorem setLock_r0 (l : Lock) : (setLock s l).r0 = s.r0 := rfl
@[simp] theorem setLock_st (l : Lock) : (setLock s l).st = s.st := rfl
@[simp] theorem setLock_cmd (l : Lock) : (setLock s l).cmd = s.cmd := rfl
@[simp] theorem setLock_tid (l : Lock) : (setLock s l).tid = s.tid := rfl
@[simp] theorem setLock_lock (l : Lock) : (setLock s l).lock = l := rfl
@[simp] theorem setLock_now (l : Lock) : (setLock s l).now = s.now := rfl
@[simp] theorem setLock_ifs (l : Lock) : (setLock s l).ifs = s.ifs := rfl
@[simp] theorem setLock_socks (l : Lock) : (setLock s l).socks = s.socks := rfl
@[simp] theorem setLock_txq (l : Lock) : (setLock s l).txq = s.txq := rfl
@[simp] theorem setLock_icmpq (l : Lock) : (setLock s l).icmpq = s.icmpq := rfl
@[simp] theorem setLock_evq (l : Lock) : (setLock s l).evq = s.evq := rfl
@[simp] theorem setLock_upq (l : Lock) : (setLock s l).upq = s.upq := rfl
@[simp] theorem setLock_cnt (l : Lock) : (setLock s l).cnt = s.cnt := rfl
@[simp] theorem setLock_par (l : Lock) : (setLock s l).par = s.par := rfl
@[simp] theorem setLock_mem (l : Lock) : (setLock s l).mem = s.mem := rfl
@[simp] theorem setLock_port (l : Lock) : (setLock s l).port = s.port := rfl
@[simp] theorem setLock_link (l : Lock) : (setLock s l).link = s.link := rfl
@[simp] theorem setLock_rtoIn (l : Lock) : (setLock s l).rtoIn = s.rtoIn := rfl
@[simp] theorem setLock_deferIn (l : Lock) : (setLock s l).deferIn = s.deferIn := rfl
@[simp] theorem setLock_free (l : Lock) : (setLock s l).free = s.free := rfl
@[simp] theorem setLock_out (l : Lock) : (setLock s l).out = s.out := rfl

/-! `setMem` -/

@[simp] theorem setMem_a (m : Memory) : (setMem s m).a = s.a := rfl
@[simp] theorem setMem_r0 (m : Memory) : (setMem s m).r0 = s.r0 := rfl
@[simp] theorem setMem_st (m : Memory) : (setMem s m).st = s.st := rfl
@[simp] theorem setMem_cmd (m : Memory) : (setMem s m).cmd = s.cmd := rfl
@[simp] theorem setMem_tid (m : Memory) : (setMem s m).tid = s.tid := rfl
@[simp] theorem setMem_lock (m : Memory) : (setMem s m).lock = s.lock := rfl
@[simp] theorem setMem_now (m : Memory) : (setMem s m).now = s.now := rfl
@[simp] theorem setMem_ifs (m : Memory) : (setMem s m).ifs = s.ifs := rfl
@[simp] theorem setMem_socks (m : Memory) : (setMem s m).socks = s.socks := rfl
@[simp] theorem setMem_txq (m : Memory) : (setMem s m).txq = s.txq := rfl
@[simp] theorem setMem_icmpq (m : Memory) : (setMem s m).icmpq = s.icmpq := rfl
@[simp] theorem setMem_evq (m : Memory) : (setMem s m).evq = s.evq := rfl
@[simp] theorem setMem_upq (m : Memory) : (setMem s m).upq = s.upq := rfl
@[simp] theorem setMem_cnt (m : Memory) : (setMem s m).cnt = s.cnt := rfl
@[simp] theorem setMem_par (m : Memory) : (setMem s m).par = s.par := rfl
@[simp] theorem setMem_mem (m : Memory) : (setMem s m).mem = m := rfl
@[simp] theorem setMem_port (m : Memory) : (setMem s m).port = s.port := rfl
@[simp] theorem setMem_link (m : Memory) : (setMem s m).link = s.link := rfl
@[simp] theorem setMem_rtoIn (m : Memory) : (setMem s m).rtoIn = s.rtoIn := rfl
@[simp] theorem setMem_deferIn (m : Memory) : (setMem s m).deferIn = s.deferIn := rfl
@[simp] theorem setMem_free (m : Memory) : (setMem s m).free = s.free := rfl
@[simp] theorem setMem_out (m : Memory) : (setMem s m).out = s.out := rfl

/-! `count` -/

@[simp] theorem count_a (c : Cause) : (count s c).a = s.a := rfl
@[simp] theorem count_r0 (c : Cause) : (count s c).r0 = s.r0 := rfl
@[simp] theorem count_st (c : Cause) : (count s c).st = s.st := rfl
@[simp] theorem count_cmd (c : Cause) : (count s c).cmd = s.cmd := rfl
@[simp] theorem count_tid (c : Cause) : (count s c).tid = s.tid := rfl
@[simp] theorem count_lock (c : Cause) : (count s c).lock = s.lock := rfl
@[simp] theorem count_now (c : Cause) : (count s c).now = s.now := rfl
@[simp] theorem count_ifs (c : Cause) : (count s c).ifs = s.ifs := rfl
@[simp] theorem count_socks (c : Cause) : (count s c).socks = s.socks := rfl
@[simp] theorem count_txq (c : Cause) : (count s c).txq = s.txq := rfl
@[simp] theorem count_icmpq (c : Cause) : (count s c).icmpq = s.icmpq := rfl
@[simp] theorem count_evq (c : Cause) : (count s c).evq = s.evq := rfl
@[simp] theorem count_upq (c : Cause) : (count s c).upq = s.upq := rfl
@[simp] theorem count_cnt (c : Cause) :
    (count s c).cnt = s.cnt.set c.code.toNat (s.cnt[c.code.toNat]'c.code.isLt + 1) c.code.isLt := rfl
@[simp] theorem count_par (c : Cause) : (count s c).par = s.par := rfl
@[simp] theorem count_mem (c : Cause) : (count s c).mem = s.mem := rfl
@[simp] theorem count_port (c : Cause) : (count s c).port = s.port := rfl
@[simp] theorem count_link (c : Cause) : (count s c).link = s.link := rfl
@[simp] theorem count_rtoIn (c : Cause) : (count s c).rtoIn = s.rtoIn := rfl
@[simp] theorem count_deferIn (c : Cause) : (count s c).deferIn = s.deferIn := rfl
@[simp] theorem count_free (c : Cause) : (count s c).free = s.free := rfl
@[simp] theorem count_out (c : Cause) : (count s c).out = s.out := rfl

/-! `done` -/

@[simp] theorem done_a (c : Cause) : (done s c).a = s.a := rfl
@[simp] theorem done_r0 (c : Cause) : (done s c).r0 = s.r0 := rfl
@[simp] theorem done_st (c : Cause) : (done s c).st = c.code := rfl
@[simp] theorem done_cmd (c : Cause) : (done s c).cmd = s.cmd := rfl
@[simp] theorem done_tid (c : Cause) : (done s c).tid = s.tid := rfl
@[simp] theorem done_lock (c : Cause) : (done s c).lock = s.lock := rfl
@[simp] theorem done_now (c : Cause) : (done s c).now = s.now := rfl
@[simp] theorem done_ifs (c : Cause) : (done s c).ifs = s.ifs := rfl
@[simp] theorem done_socks (c : Cause) : (done s c).socks = s.socks := rfl
@[simp] theorem done_txq (c : Cause) : (done s c).txq = s.txq := rfl
@[simp] theorem done_icmpq (c : Cause) : (done s c).icmpq = s.icmpq := rfl
@[simp] theorem done_evq (c : Cause) : (done s c).evq = s.evq := rfl
@[simp] theorem done_upq (c : Cause) : (done s c).upq = s.upq := rfl
@[simp] theorem done_cnt (c : Cause) : (done s c).cnt = s.cnt := rfl
@[simp] theorem done_par (c : Cause) : (done s c).par = s.par := rfl
@[simp] theorem done_mem (c : Cause) : (done s c).mem = s.mem := rfl
@[simp] theorem done_port (c : Cause) : (done s c).port = s.port := rfl
@[simp] theorem done_link (c : Cause) : (done s c).link = s.link := rfl
@[simp] theorem done_rtoIn (c : Cause) : (done s c).rtoIn = s.rtoIn := rfl
@[simp] theorem done_deferIn (c : Cause) : (done s c).deferIn = s.deferIn := rfl
@[simp] theorem done_free (c : Cause) : (done s c).free = s.free := rfl
@[simp] theorem done_out (c : Cause) : (done s c).out = s.out := rfl

/-! `drop` -/

@[simp] theorem drop_a (c : Cause) : (drop s c).a = s.a := rfl
@[simp] theorem drop_r0 (c : Cause) : (drop s c).r0 = s.r0 := rfl
@[simp] theorem drop_st (c : Cause) : (drop s c).st = c.code := rfl
@[simp] theorem drop_cmd (c : Cause) : (drop s c).cmd = s.cmd := rfl
@[simp] theorem drop_tid (c : Cause) : (drop s c).tid = s.tid := rfl
@[simp] theorem drop_lock (c : Cause) : (drop s c).lock = s.lock := rfl
@[simp] theorem drop_now (c : Cause) : (drop s c).now = s.now := rfl
@[simp] theorem drop_ifs (c : Cause) : (drop s c).ifs = s.ifs := rfl
@[simp] theorem drop_socks (c : Cause) : (drop s c).socks = s.socks := rfl
@[simp] theorem drop_txq (c : Cause) : (drop s c).txq = s.txq := rfl
@[simp] theorem drop_icmpq (c : Cause) : (drop s c).icmpq = s.icmpq := rfl
@[simp] theorem drop_evq (c : Cause) : (drop s c).evq = s.evq := rfl
@[simp] theorem drop_upq (c : Cause) : (drop s c).upq = s.upq := rfl
@[simp] theorem drop_cnt (c : Cause) :
    (drop s c).cnt = s.cnt.set c.code.toNat (s.cnt[c.code.toNat]'c.code.isLt + 1) c.code.isLt := rfl
@[simp] theorem drop_par (c : Cause) : (drop s c).par = s.par := rfl
@[simp] theorem drop_mem (c : Cause) : (drop s c).mem = s.mem := rfl
@[simp] theorem drop_port (c : Cause) : (drop s c).port = s.port := rfl
@[simp] theorem drop_link (c : Cause) : (drop s c).link = s.link := rfl
@[simp] theorem drop_rtoIn (c : Cause) : (drop s c).rtoIn = s.rtoIn := rfl
@[simp] theorem drop_deferIn (c : Cause) : (drop s c).deferIn = s.deferIn := rfl
@[simp] theorem drop_free (c : Cause) : (drop s c).free = s.free := rfl
@[simp] theorem drop_out (c : Cause) : (drop s c).out = s.out := rfl

/-! `raiseIcmp` -/

@[simp] theorem raiseIcmp_a (i y c : Byte) (p : Word) (b : Bytes) : (raiseIcmp s i y c p b).a = s.a := rfl
@[simp] theorem raiseIcmp_r0 (i y c : Byte) (p : Word) (b : Bytes) : (raiseIcmp s i y c p b).r0 = s.r0 := rfl
@[simp] theorem raiseIcmp_st (i y c : Byte) (p : Word) (b : Bytes) : (raiseIcmp s i y c p b).st = s.st := rfl
@[simp] theorem raiseIcmp_cmd (i y c : Byte) (p : Word) (b : Bytes) : (raiseIcmp s i y c p b).cmd = s.cmd := rfl
@[simp] theorem raiseIcmp_tid (i y c : Byte) (p : Word) (b : Bytes) : (raiseIcmp s i y c p b).tid = s.tid := rfl
@[simp] theorem raiseIcmp_lock (i y c : Byte) (p : Word) (b : Bytes) : (raiseIcmp s i y c p b).lock = s.lock := rfl
@[simp] theorem raiseIcmp_now (i y c : Byte) (p : Word) (b : Bytes) : (raiseIcmp s i y c p b).now = s.now := rfl
@[simp] theorem raiseIcmp_ifs (i y c : Byte) (p : Word) (b : Bytes) : (raiseIcmp s i y c p b).ifs = s.ifs := rfl
@[simp] theorem raiseIcmp_socks (i y c : Byte) (p : Word) (b : Bytes) : (raiseIcmp s i y c p b).socks = s.socks := rfl
@[simp] theorem raiseIcmp_txq (i y c : Byte) (p : Word) (b : Bytes) : (raiseIcmp s i y c p b).txq = s.txq := rfl
@[simp] theorem raiseIcmp_icmpq (i y c : Byte) (p : Word) (b : Bytes) :
    (raiseIcmp s i y c p b).icmpq = s.icmpq ++ [⟨i, y, c, p, b⟩] := rfl
@[simp] theorem raiseIcmp_evq (i y c : Byte) (p : Word) (b : Bytes) : (raiseIcmp s i y c p b).evq = s.evq := rfl
@[simp] theorem raiseIcmp_upq (i y c : Byte) (p : Word) (b : Bytes) : (raiseIcmp s i y c p b).upq = s.upq := rfl
@[simp] theorem raiseIcmp_cnt (i y c : Byte) (p : Word) (b : Bytes) : (raiseIcmp s i y c p b).cnt = s.cnt := rfl
@[simp] theorem raiseIcmp_par (i y c : Byte) (p : Word) (b : Bytes) : (raiseIcmp s i y c p b).par = s.par := rfl
@[simp] theorem raiseIcmp_mem (i y c : Byte) (p : Word) (b : Bytes) : (raiseIcmp s i y c p b).mem = s.mem := rfl
@[simp] theorem raiseIcmp_port (i y c : Byte) (p : Word) (b : Bytes) : (raiseIcmp s i y c p b).port = s.port := rfl
@[simp] theorem raiseIcmp_link (i y c : Byte) (p : Word) (b : Bytes) : (raiseIcmp s i y c p b).link = s.link := rfl
@[simp] theorem raiseIcmp_rtoIn (i y c : Byte) (p : Word) (b : Bytes) : (raiseIcmp s i y c p b).rtoIn = s.rtoIn := rfl
@[simp] theorem raiseIcmp_deferIn (i y c : Byte) (p : Word) (b : Bytes) :
    (raiseIcmp s i y c p b).deferIn = s.deferIn := rfl
@[simp] theorem raiseIcmp_free (i y c : Byte) (p : Word) (b : Bytes) : (raiseIcmp s i y c p b).free = s.free := rfl
@[simp] theorem raiseIcmp_out (i y c : Byte) (p : Word) (b : Bytes) : (raiseIcmp s i y c p b).out = s.out := rfl

/-! `signal` -/

@[simp] theorem signal_a (i : Nat) (e : EventKind) : (signal s i e).a = s.a := rfl
@[simp] theorem signal_r0 (i : Nat) (e : EventKind) : (signal s i e).r0 = s.r0 := rfl
@[simp] theorem signal_st (i : Nat) (e : EventKind) : (signal s i e).st = s.st := rfl
@[simp] theorem signal_cmd (i : Nat) (e : EventKind) : (signal s i e).cmd = s.cmd := rfl
@[simp] theorem signal_tid (i : Nat) (e : EventKind) : (signal s i e).tid = s.tid := rfl
@[simp] theorem signal_lock (i : Nat) (e : EventKind) : (signal s i e).lock = s.lock := rfl
@[simp] theorem signal_now (i : Nat) (e : EventKind) : (signal s i e).now = s.now := rfl
@[simp] theorem signal_ifs (i : Nat) (e : EventKind) : (signal s i e).ifs = s.ifs := rfl
@[simp] theorem signal_socks (i : Nat) (e : EventKind) : (signal s i e).socks = s.socks := rfl
@[simp] theorem signal_txq (i : Nat) (e : EventKind) : (signal s i e).txq = s.txq := rfl
@[simp] theorem signal_icmpq (i : Nat) (e : EventKind) : (signal s i e).icmpq = s.icmpq := rfl
@[simp] theorem signal_evq (i : Nat) (e : EventKind) : (signal s i e).evq = s.evq ++ [⟨BitVec.ofNat 8 i, e⟩] := rfl
@[simp] theorem signal_upq (i : Nat) (e : EventKind) : (signal s i e).upq = s.upq := rfl
@[simp] theorem signal_cnt (i : Nat) (e : EventKind) : (signal s i e).cnt = s.cnt := rfl
@[simp] theorem signal_par (i : Nat) (e : EventKind) : (signal s i e).par = s.par := rfl
@[simp] theorem signal_mem (i : Nat) (e : EventKind) : (signal s i e).mem = s.mem := rfl
@[simp] theorem signal_port (i : Nat) (e : EventKind) : (signal s i e).port = s.port := rfl
@[simp] theorem signal_link (i : Nat) (e : EventKind) : (signal s i e).link = s.link := rfl
@[simp] theorem signal_rtoIn (i : Nat) (e : EventKind) : (signal s i e).rtoIn = s.rtoIn := rfl
@[simp] theorem signal_deferIn (i : Nat) (e : EventKind) : (signal s i e).deferIn = s.deferIn := rfl
@[simp] theorem signal_free (i : Nat) (e : EventKind) : (signal s i e).free = s.free := rfl
@[simp] theorem signal_out (i : Nat) (e : EventKind) : (signal s i e).out = s.out := rfl

/-! `pushUp` -/

@[simp] theorem pushUp_a (e : UpEntry) : (pushUp s e).a = s.a := rfl
@[simp] theorem pushUp_r0 (e : UpEntry) : (pushUp s e).r0 = s.r0 := rfl
@[simp] theorem pushUp_st (e : UpEntry) : (pushUp s e).st = s.st := rfl
@[simp] theorem pushUp_cmd (e : UpEntry) : (pushUp s e).cmd = s.cmd := rfl
@[simp] theorem pushUp_tid (e : UpEntry) : (pushUp s e).tid = s.tid := rfl
@[simp] theorem pushUp_lock (e : UpEntry) : (pushUp s e).lock = s.lock := rfl
@[simp] theorem pushUp_now (e : UpEntry) : (pushUp s e).now = s.now := rfl
@[simp] theorem pushUp_ifs (e : UpEntry) : (pushUp s e).ifs = s.ifs := rfl
@[simp] theorem pushUp_socks (e : UpEntry) : (pushUp s e).socks = s.socks := rfl
@[simp] theorem pushUp_txq (e : UpEntry) : (pushUp s e).txq = s.txq := rfl
@[simp] theorem pushUp_icmpq (e : UpEntry) : (pushUp s e).icmpq = s.icmpq := rfl
@[simp] theorem pushUp_evq (e : UpEntry) : (pushUp s e).evq = s.evq := rfl
@[simp] theorem pushUp_upq (e : UpEntry) : (pushUp s e).upq = s.upq ++ [e] := rfl
@[simp] theorem pushUp_cnt (e : UpEntry) : (pushUp s e).cnt = s.cnt := rfl
@[simp] theorem pushUp_par (e : UpEntry) : (pushUp s e).par = s.par := rfl
@[simp] theorem pushUp_mem (e : UpEntry) : (pushUp s e).mem = s.mem := rfl
@[simp] theorem pushUp_port (e : UpEntry) : (pushUp s e).port = s.port := rfl
@[simp] theorem pushUp_link (e : UpEntry) : (pushUp s e).link = s.link := rfl
@[simp] theorem pushUp_rtoIn (e : UpEntry) : (pushUp s e).rtoIn = s.rtoIn := rfl
@[simp] theorem pushUp_deferIn (e : UpEntry) : (pushUp s e).deferIn = s.deferIn := rfl
@[simp] theorem pushUp_free (e : UpEntry) : (pushUp s e).free = s.free := rfl
@[simp] theorem pushUp_out (e : UpEntry) : (pushUp s e).out = s.out := rfl

/-! `setIface` -/

@[simp] theorem setIface_a (i : Nat) (f : Iface) : (setIface s i f).a = s.a := rfl
@[simp] theorem setIface_r0 (i : Nat) (f : Iface) : (setIface s i f).r0 = s.r0 := rfl
@[simp] theorem setIface_st (i : Nat) (f : Iface) : (setIface s i f).st = s.st := rfl
@[simp] theorem setIface_cmd (i : Nat) (f : Iface) : (setIface s i f).cmd = s.cmd := rfl
@[simp] theorem setIface_tid (i : Nat) (f : Iface) : (setIface s i f).tid = s.tid := rfl
@[simp] theorem setIface_lock (i : Nat) (f : Iface) : (setIface s i f).lock = s.lock := rfl
@[simp] theorem setIface_now (i : Nat) (f : Iface) : (setIface s i f).now = s.now := rfl
@[simp] theorem setIface_ifs (i : Nat) (f : Iface) : (setIface s i f).ifs = s.ifs.set i f := rfl
@[simp] theorem setIface_socks (i : Nat) (f : Iface) : (setIface s i f).socks = s.socks := rfl
@[simp] theorem setIface_txq (i : Nat) (f : Iface) : (setIface s i f).txq = s.txq := rfl
@[simp] theorem setIface_icmpq (i : Nat) (f : Iface) : (setIface s i f).icmpq = s.icmpq := rfl
@[simp] theorem setIface_evq (i : Nat) (f : Iface) : (setIface s i f).evq = s.evq := rfl
@[simp] theorem setIface_upq (i : Nat) (f : Iface) : (setIface s i f).upq = s.upq := rfl
@[simp] theorem setIface_cnt (i : Nat) (f : Iface) : (setIface s i f).cnt = s.cnt := rfl
@[simp] theorem setIface_par (i : Nat) (f : Iface) : (setIface s i f).par = s.par := rfl
@[simp] theorem setIface_mem (i : Nat) (f : Iface) : (setIface s i f).mem = s.mem := rfl
@[simp] theorem setIface_port (i : Nat) (f : Iface) : (setIface s i f).port = s.port := rfl
@[simp] theorem setIface_link (i : Nat) (f : Iface) : (setIface s i f).link = s.link := rfl
@[simp] theorem setIface_rtoIn (i : Nat) (f : Iface) : (setIface s i f).rtoIn = s.rtoIn := rfl
@[simp] theorem setIface_deferIn (i : Nat) (f : Iface) : (setIface s i f).deferIn = s.deferIn := rfl
@[simp] theorem setIface_free (i : Nat) (f : Iface) : (setIface s i f).free = s.free := rfl
@[simp] theorem setIface_out (i : Nat) (f : Iface) : (setIface s i f).out = s.out := rfl

/-! `setSock` -/

@[simp] theorem setSock_a (i : Nat) (k : Sock) : (setSock s i k).a = s.a := rfl
@[simp] theorem setSock_r0 (i : Nat) (k : Sock) : (setSock s i k).r0 = s.r0 := rfl
@[simp] theorem setSock_st (i : Nat) (k : Sock) : (setSock s i k).st = s.st := rfl
@[simp] theorem setSock_cmd (i : Nat) (k : Sock) : (setSock s i k).cmd = s.cmd := rfl
@[simp] theorem setSock_tid (i : Nat) (k : Sock) : (setSock s i k).tid = s.tid := rfl
@[simp] theorem setSock_lock (i : Nat) (k : Sock) : (setSock s i k).lock = s.lock := rfl
@[simp] theorem setSock_now (i : Nat) (k : Sock) : (setSock s i k).now = s.now := rfl
@[simp] theorem setSock_ifs (i : Nat) (k : Sock) : (setSock s i k).ifs = s.ifs := rfl
@[simp] theorem setSock_socks (i : Nat) (k : Sock) : (setSock s i k).socks = s.socks.set i k := rfl
@[simp] theorem setSock_txq (i : Nat) (k : Sock) : (setSock s i k).txq = s.txq := rfl
@[simp] theorem setSock_icmpq (i : Nat) (k : Sock) : (setSock s i k).icmpq = s.icmpq := rfl
@[simp] theorem setSock_evq (i : Nat) (k : Sock) : (setSock s i k).evq = s.evq := rfl
@[simp] theorem setSock_upq (i : Nat) (k : Sock) : (setSock s i k).upq = s.upq := rfl
@[simp] theorem setSock_cnt (i : Nat) (k : Sock) : (setSock s i k).cnt = s.cnt := rfl
@[simp] theorem setSock_par (i : Nat) (k : Sock) : (setSock s i k).par = s.par := rfl
@[simp] theorem setSock_mem (i : Nat) (k : Sock) : (setSock s i k).mem = s.mem := rfl
@[simp] theorem setSock_port (i : Nat) (k : Sock) : (setSock s i k).port = s.port := rfl
@[simp] theorem setSock_link (i : Nat) (k : Sock) : (setSock s i k).link = s.link := rfl
@[simp] theorem setSock_rtoIn (i : Nat) (k : Sock) : (setSock s i k).rtoIn = s.rtoIn := rfl
@[simp] theorem setSock_deferIn (i : Nat) (k : Sock) : (setSock s i k).deferIn = s.deferIn := rfl
@[simp] theorem setSock_free (i : Nat) (k : Sock) : (setSock s i k).free = s.free := rfl
@[simp] theorem setSock_out (i : Nat) (k : Sock) : (setSock s i k).out = s.out := rfl

/-! `updSock` -/

@[simp] theorem updSock_a (i : Nat) (g : Sock → Sock) : (updSock s i g).a = s.a := rfl
@[simp] theorem updSock_r0 (i : Nat) (g : Sock → Sock) : (updSock s i g).r0 = s.r0 := rfl
@[simp] theorem updSock_st (i : Nat) (g : Sock → Sock) : (updSock s i g).st = s.st := rfl
@[simp] theorem updSock_cmd (i : Nat) (g : Sock → Sock) : (updSock s i g).cmd = s.cmd := rfl
@[simp] theorem updSock_tid (i : Nat) (g : Sock → Sock) : (updSock s i g).tid = s.tid := rfl
@[simp] theorem updSock_lock (i : Nat) (g : Sock → Sock) : (updSock s i g).lock = s.lock := rfl
@[simp] theorem updSock_now (i : Nat) (g : Sock → Sock) : (updSock s i g).now = s.now := rfl
@[simp] theorem updSock_ifs (i : Nat) (g : Sock → Sock) : (updSock s i g).ifs = s.ifs := rfl
@[simp] theorem updSock_socks (i : Nat) (g : Sock → Sock) :
    (updSock s i g).socks = s.socks.set i (g (s.sock i)) := rfl
@[simp] theorem updSock_txq (i : Nat) (g : Sock → Sock) : (updSock s i g).txq = s.txq := rfl
@[simp] theorem updSock_icmpq (i : Nat) (g : Sock → Sock) : (updSock s i g).icmpq = s.icmpq := rfl
@[simp] theorem updSock_evq (i : Nat) (g : Sock → Sock) : (updSock s i g).evq = s.evq := rfl
@[simp] theorem updSock_upq (i : Nat) (g : Sock → Sock) : (updSock s i g).upq = s.upq := rfl
@[simp] theorem updSock_cnt (i : Nat) (g : Sock → Sock) : (updSock s i g).cnt = s.cnt := rfl
@[simp] theorem updSock_par (i : Nat) (g : Sock → Sock) : (updSock s i g).par = s.par := rfl
@[simp] theorem updSock_mem (i : Nat) (g : Sock → Sock) : (updSock s i g).mem = s.mem := rfl
@[simp] theorem updSock_port (i : Nat) (g : Sock → Sock) : (updSock s i g).port = s.port := rfl
@[simp] theorem updSock_link (i : Nat) (g : Sock → Sock) : (updSock s i g).link = s.link := rfl
@[simp] theorem updSock_rtoIn (i : Nat) (g : Sock → Sock) : (updSock s i g).rtoIn = s.rtoIn := rfl
@[simp] theorem updSock_deferIn (i : Nat) (g : Sock → Sock) : (updSock s i g).deferIn = s.deferIn := rfl
@[simp] theorem updSock_free (i : Nat) (g : Sock → Sock) : (updSock s i g).free = s.free := rfl
@[simp] theorem updSock_out (i : Nat) (g : Sock → Sock) : (updSock s i g).out = s.out := rfl

/-! `recycle` -/

@[simp] theorem recycle_a (i : Nat) : (recycle s i).a = s.a := rfl
@[simp] theorem recycle_r0 (i : Nat) : (recycle s i).r0 = s.r0 := rfl
@[simp] theorem recycle_st (i : Nat) : (recycle s i).st = s.st := rfl
@[simp] theorem recycle_cmd (i : Nat) : (recycle s i).cmd = s.cmd := rfl
@[simp] theorem recycle_tid (i : Nat) : (recycle s i).tid = s.tid := rfl
@[simp] theorem recycle_lock (i : Nat) : (recycle s i).lock = s.lock := rfl
@[simp] theorem recycle_now (i : Nat) : (recycle s i).now = s.now := rfl
@[simp] theorem recycle_ifs (i : Nat) : (recycle s i).ifs = s.ifs := rfl
@[simp] theorem recycle_socks (i : Nat) : (recycle s i).socks = s.socks.set i Sock.reset := rfl
@[simp] theorem recycle_txq (i : Nat) : (recycle s i).txq = s.txq := rfl
@[simp] theorem recycle_icmpq (i : Nat) : (recycle s i).icmpq = s.icmpq := rfl
@[simp] theorem recycle_evq (i : Nat) : (recycle s i).evq = s.evq := rfl
@[simp] theorem recycle_upq (i : Nat) : (recycle s i).upq = s.upq := rfl
@[simp] theorem recycle_cnt (i : Nat) : (recycle s i).cnt = s.cnt := rfl
@[simp] theorem recycle_par (i : Nat) : (recycle s i).par = s.par := rfl
@[simp] theorem recycle_mem (i : Nat) : (recycle s i).mem = s.mem := rfl
@[simp] theorem recycle_port (i : Nat) : (recycle s i).port = s.port := rfl
@[simp] theorem recycle_link (i : Nat) : (recycle s i).link = s.link := rfl
@[simp] theorem recycle_rtoIn (i : Nat) : (recycle s i).rtoIn = s.rtoIn := rfl
@[simp] theorem recycle_deferIn (i : Nat) : (recycle s i).deferIn = s.deferIn := rfl
@[simp] theorem recycle_free (i : Nat) : (recycle s i).free = s.free := rfl
@[simp] theorem recycle_out (i : Nat) : (recycle s i).out = s.out := rfl

/-! `setSlot` -/

@[simp] theorem setSlot_a (i j : Nat) (f : Slot) : (setSlot s i j f).a = s.a := rfl
@[simp] theorem setSlot_r0 (i j : Nat) (f : Slot) : (setSlot s i j f).r0 = s.r0 := rfl
@[simp] theorem setSlot_st (i j : Nat) (f : Slot) : (setSlot s i j f).st = s.st := rfl
@[simp] theorem setSlot_cmd (i j : Nat) (f : Slot) : (setSlot s i j f).cmd = s.cmd := rfl
@[simp] theorem setSlot_tid (i j : Nat) (f : Slot) : (setSlot s i j f).tid = s.tid := rfl
@[simp] theorem setSlot_lock (i j : Nat) (f : Slot) : (setSlot s i j f).lock = s.lock := rfl
@[simp] theorem setSlot_now (i j : Nat) (f : Slot) : (setSlot s i j f).now = s.now := rfl
@[simp] theorem setSlot_ifs (i j : Nat) (f : Slot) :
    (setSlot s i j f).ifs = s.ifs.set i { s.iface i with frag := (s.iface i).frag.set j f } := rfl
@[simp] theorem setSlot_socks (i j : Nat) (f : Slot) : (setSlot s i j f).socks = s.socks := rfl
@[simp] theorem setSlot_txq (i j : Nat) (f : Slot) : (setSlot s i j f).txq = s.txq := rfl
@[simp] theorem setSlot_icmpq (i j : Nat) (f : Slot) : (setSlot s i j f).icmpq = s.icmpq := rfl
@[simp] theorem setSlot_evq (i j : Nat) (f : Slot) : (setSlot s i j f).evq = s.evq := rfl
@[simp] theorem setSlot_upq (i j : Nat) (f : Slot) : (setSlot s i j f).upq = s.upq := rfl
@[simp] theorem setSlot_cnt (i j : Nat) (f : Slot) : (setSlot s i j f).cnt = s.cnt := rfl
@[simp] theorem setSlot_par (i j : Nat) (f : Slot) : (setSlot s i j f).par = s.par := rfl
@[simp] theorem setSlot_mem (i j : Nat) (f : Slot) : (setSlot s i j f).mem = s.mem := rfl
@[simp] theorem setSlot_port (i j : Nat) (f : Slot) : (setSlot s i j f).port = s.port := rfl
@[simp] theorem setSlot_link (i j : Nat) (f : Slot) : (setSlot s i j f).link = s.link := rfl
@[simp] theorem setSlot_rtoIn (i j : Nat) (f : Slot) : (setSlot s i j f).rtoIn = s.rtoIn := rfl
@[simp] theorem setSlot_deferIn (i j : Nat) (f : Slot) : (setSlot s i j f).deferIn = s.deferIn := rfl
@[simp] theorem setSlot_free (i j : Nat) (f : Slot) : (setSlot s i j f).free = s.free := rfl
@[simp] theorem setSlot_out (i j : Nat) (f : Slot) : (setSlot s i j f).out = s.out := rfl

/-! `releaseSlot` -/

@[simp] theorem releaseSlot_a (i j : Nat) : (releaseSlot s i j).a = s.a := rfl
@[simp] theorem releaseSlot_r0 (i j : Nat) : (releaseSlot s i j).r0 = s.r0 := rfl
@[simp] theorem releaseSlot_st (i j : Nat) : (releaseSlot s i j).st = s.st := rfl
@[simp] theorem releaseSlot_cmd (i j : Nat) : (releaseSlot s i j).cmd = s.cmd := rfl
@[simp] theorem releaseSlot_tid (i j : Nat) : (releaseSlot s i j).tid = s.tid := rfl
@[simp] theorem releaseSlot_lock (i j : Nat) : (releaseSlot s i j).lock = s.lock := rfl
@[simp] theorem releaseSlot_now (i j : Nat) : (releaseSlot s i j).now = s.now := rfl
@[simp] theorem releaseSlot_ifs (i j : Nat) :
    (releaseSlot s i j).ifs = s.ifs.set i { s.iface i with frag := (s.iface i).frag.set j Slot.reset } := rfl
@[simp] theorem releaseSlot_socks (i j : Nat) : (releaseSlot s i j).socks = s.socks := rfl
@[simp] theorem releaseSlot_txq (i j : Nat) : (releaseSlot s i j).txq = s.txq := rfl
@[simp] theorem releaseSlot_icmpq (i j : Nat) : (releaseSlot s i j).icmpq = s.icmpq := rfl
@[simp] theorem releaseSlot_evq (i j : Nat) : (releaseSlot s i j).evq = s.evq := rfl
@[simp] theorem releaseSlot_upq (i j : Nat) : (releaseSlot s i j).upq = s.upq := rfl
@[simp] theorem releaseSlot_cnt (i j : Nat) : (releaseSlot s i j).cnt = s.cnt := rfl
@[simp] theorem releaseSlot_par (i j : Nat) : (releaseSlot s i j).par = s.par := rfl
@[simp] theorem releaseSlot_mem (i j : Nat) : (releaseSlot s i j).mem = s.mem := rfl
@[simp] theorem releaseSlot_port (i j : Nat) : (releaseSlot s i j).port = s.port := rfl
@[simp] theorem releaseSlot_link (i j : Nat) : (releaseSlot s i j).link = s.link := rfl
@[simp] theorem releaseSlot_rtoIn (i j : Nat) : (releaseSlot s i j).rtoIn = s.rtoIn := rfl
@[simp] theorem releaseSlot_deferIn (i j : Nat) : (releaseSlot s i j).deferIn = s.deferIn := rfl
@[simp] theorem releaseSlot_free (i j : Nat) : (releaseSlot s i j).free = s.free := rfl
@[simp] theorem releaseSlot_out (i j : Nat) : (releaseSlot s i j).out = s.out := rfl

/-! `advanceId` -/

@[simp] theorem advanceId_a (i : Nat) : (advanceId s i).a = s.a := rfl
@[simp] theorem advanceId_r0 (i : Nat) : (advanceId s i).r0 = s.r0 := rfl
@[simp] theorem advanceId_st (i : Nat) : (advanceId s i).st = s.st := rfl
@[simp] theorem advanceId_cmd (i : Nat) : (advanceId s i).cmd = s.cmd := rfl
@[simp] theorem advanceId_tid (i : Nat) : (advanceId s i).tid = s.tid := rfl
@[simp] theorem advanceId_lock (i : Nat) : (advanceId s i).lock = s.lock := rfl
@[simp] theorem advanceId_now (i : Nat) : (advanceId s i).now = s.now := rfl
@[simp] theorem advanceId_ifs (i : Nat) :
    (advanceId s i).ifs = s.ifs.set i { s.iface i with ipId := (s.iface i).ipId + 1 } := rfl
@[simp] theorem advanceId_socks (i : Nat) : (advanceId s i).socks = s.socks := rfl
@[simp] theorem advanceId_txq (i : Nat) : (advanceId s i).txq = s.txq := rfl
@[simp] theorem advanceId_icmpq (i : Nat) : (advanceId s i).icmpq = s.icmpq := rfl
@[simp] theorem advanceId_evq (i : Nat) : (advanceId s i).evq = s.evq := rfl
@[simp] theorem advanceId_upq (i : Nat) : (advanceId s i).upq = s.upq := rfl
@[simp] theorem advanceId_cnt (i : Nat) : (advanceId s i).cnt = s.cnt := rfl
@[simp] theorem advanceId_par (i : Nat) : (advanceId s i).par = s.par := rfl
@[simp] theorem advanceId_mem (i : Nat) : (advanceId s i).mem = s.mem := rfl
@[simp] theorem advanceId_port (i : Nat) : (advanceId s i).port = s.port := rfl
@[simp] theorem advanceId_link (i : Nat) : (advanceId s i).link = s.link := rfl
@[simp] theorem advanceId_rtoIn (i : Nat) : (advanceId s i).rtoIn = s.rtoIn := rfl
@[simp] theorem advanceId_deferIn (i : Nat) : (advanceId s i).deferIn = s.deferIn := rfl
@[simp] theorem advanceId_free (i : Nat) : (advanceId s i).free = s.free := rfl
@[simp] theorem advanceId_out (i : Nat) : (advanceId s i).out = s.out := rfl

/-! `setReg` -/

@[simp] theorem setReg_a (i : Fin 8) (v : Word) : (setReg s i v).a = s.a.set i (some v) := rfl
@[simp] theorem setReg_r0 (i : Fin 8) (v : Word) : (setReg s i v).r0 = s.r0 := rfl
@[simp] theorem setReg_st (i : Fin 8) (v : Word) : (setReg s i v).st = s.st := rfl
@[simp] theorem setReg_cmd (i : Fin 8) (v : Word) : (setReg s i v).cmd = s.cmd := rfl
@[simp] theorem setReg_tid (i : Fin 8) (v : Word) : (setReg s i v).tid = s.tid := rfl
@[simp] theorem setReg_lock (i : Fin 8) (v : Word) : (setReg s i v).lock = s.lock := rfl
@[simp] theorem setReg_now (i : Fin 8) (v : Word) : (setReg s i v).now = s.now := rfl
@[simp] theorem setReg_ifs (i : Fin 8) (v : Word) : (setReg s i v).ifs = s.ifs := rfl
@[simp] theorem setReg_socks (i : Fin 8) (v : Word) : (setReg s i v).socks = s.socks := rfl
@[simp] theorem setReg_txq (i : Fin 8) (v : Word) : (setReg s i v).txq = s.txq := rfl
@[simp] theorem setReg_icmpq (i : Fin 8) (v : Word) : (setReg s i v).icmpq = s.icmpq := rfl
@[simp] theorem setReg_evq (i : Fin 8) (v : Word) : (setReg s i v).evq = s.evq := rfl
@[simp] theorem setReg_upq (i : Fin 8) (v : Word) : (setReg s i v).upq = s.upq := rfl
@[simp] theorem setReg_cnt (i : Fin 8) (v : Word) : (setReg s i v).cnt = s.cnt := rfl
@[simp] theorem setReg_par (i : Fin 8) (v : Word) : (setReg s i v).par = s.par := rfl
@[simp] theorem setReg_mem (i : Fin 8) (v : Word) : (setReg s i v).mem = s.mem := rfl
@[simp] theorem setReg_port (i : Fin 8) (v : Word) : (setReg s i v).port = s.port := rfl
@[simp] theorem setReg_link (i : Fin 8) (v : Word) : (setReg s i v).link = s.link := rfl
@[simp] theorem setReg_rtoIn (i : Fin 8) (v : Word) : (setReg s i v).rtoIn = s.rtoIn := rfl
@[simp] theorem setReg_deferIn (i : Fin 8) (v : Word) : (setReg s i v).deferIn = s.deferIn := rfl
@[simp] theorem setReg_free (i : Fin 8) (v : Word) : (setReg s i v).free = s.free := rfl
@[simp] theorem setReg_out (i : Fin 8) (v : Word) : (setReg s i v).out = s.out := rfl

/-! `advanceNow` -/

@[simp] theorem advanceNow_a : (advanceNow s).a = s.a := rfl
@[simp] theorem advanceNow_r0 : (advanceNow s).r0 = s.r0 := rfl
@[simp] theorem advanceNow_st : (advanceNow s).st = s.st := rfl
@[simp] theorem advanceNow_cmd : (advanceNow s).cmd = s.cmd := rfl
@[simp] theorem advanceNow_tid : (advanceNow s).tid = s.tid := rfl
@[simp] theorem advanceNow_lock : (advanceNow s).lock = s.lock := rfl
@[simp] theorem advanceNow_now : (advanceNow s).now = s.now + 1 := rfl
@[simp] theorem advanceNow_ifs : (advanceNow s).ifs = s.ifs := rfl
@[simp] theorem advanceNow_socks : (advanceNow s).socks = s.socks := rfl
@[simp] theorem advanceNow_txq : (advanceNow s).txq = s.txq := rfl
@[simp] theorem advanceNow_icmpq : (advanceNow s).icmpq = s.icmpq := rfl
@[simp] theorem advanceNow_evq : (advanceNow s).evq = s.evq := rfl
@[simp] theorem advanceNow_upq : (advanceNow s).upq = s.upq := rfl
@[simp] theorem advanceNow_cnt : (advanceNow s).cnt = s.cnt := rfl
@[simp] theorem advanceNow_par : (advanceNow s).par = s.par := rfl
@[simp] theorem advanceNow_mem : (advanceNow s).mem = s.mem := rfl
@[simp] theorem advanceNow_port : (advanceNow s).port = s.port := rfl
@[simp] theorem advanceNow_link : (advanceNow s).link = s.link := rfl
@[simp] theorem advanceNow_rtoIn : (advanceNow s).rtoIn = s.rtoIn := rfl
@[simp] theorem advanceNow_deferIn : (advanceNow s).deferIn = s.deferIn := rfl
@[simp] theorem advanceNow_free : (advanceNow s).free = s.free := rfl
@[simp] theorem advanceNow_out : (advanceNow s).out = s.out := rfl

/-! `latched` -/

@[simp] theorem latched_a (w : Word) (t : Byte) : (latched w t s).a = s.a := rfl
@[simp] theorem latched_r0 (w : Word) (t : Byte) : (latched w t s).r0 = s.r0 := rfl
@[simp] theorem latched_st (w : Word) (t : Byte) : (latched w t s).st = s.st := rfl
@[simp] theorem latched_cmd (w : Word) (t : Byte) : (latched w t s).cmd = w := rfl
@[simp] theorem latched_tid (w : Word) (t : Byte) : (latched w t s).tid = t := rfl
@[simp] theorem latched_lock (w : Word) (t : Byte) : (latched w t s).lock = s.lock := rfl
@[simp] theorem latched_now (w : Word) (t : Byte) : (latched w t s).now = s.now := rfl
@[simp] theorem latched_ifs (w : Word) (t : Byte) : (latched w t s).ifs = s.ifs := rfl
@[simp] theorem latched_socks (w : Word) (t : Byte) : (latched w t s).socks = s.socks := rfl
@[simp] theorem latched_txq (w : Word) (t : Byte) : (latched w t s).txq = s.txq := rfl
@[simp] theorem latched_icmpq (w : Word) (t : Byte) : (latched w t s).icmpq = s.icmpq := rfl
@[simp] theorem latched_evq (w : Word) (t : Byte) : (latched w t s).evq = s.evq := rfl
@[simp] theorem latched_upq (w : Word) (t : Byte) : (latched w t s).upq = s.upq := rfl
@[simp] theorem latched_cnt (w : Word) (t : Byte) : (latched w t s).cnt = s.cnt := rfl
@[simp] theorem latched_par (w : Word) (t : Byte) : (latched w t s).par = s.par := rfl
@[simp] theorem latched_mem (w : Word) (t : Byte) : (latched w t s).mem = s.mem := rfl
@[simp] theorem latched_port (w : Word) (t : Byte) : (latched w t s).port = s.port := rfl
@[simp] theorem latched_link (w : Word) (t : Byte) : (latched w t s).link = s.link := rfl
@[simp] theorem latched_rtoIn (w : Word) (t : Byte) : (latched w t s).rtoIn = s.rtoIn := rfl
@[simp] theorem latched_deferIn (w : Word) (t : Byte) : (latched w t s).deferIn = s.deferIn := rfl
@[simp] theorem latched_free (w : Word) (t : Byte) : (latched w t s).free = s.free := rfl
@[simp] theorem latched_out (w : Word) (t : Byte) : (latched w t s).out = s.out := rfl

/-! `taking` -/

@[simp] theorem taking_a (l : List Input) : (taking s l).a = s.a := rfl
@[simp] theorem taking_r0 (l : List Input) : (taking s l).r0 = s.r0 := rfl
@[simp] theorem taking_st (l : List Input) : (taking s l).st = s.st := rfl
@[simp] theorem taking_cmd (l : List Input) : (taking s l).cmd = s.cmd := rfl
@[simp] theorem taking_tid (l : List Input) : (taking s l).tid = s.tid := rfl
@[simp] theorem taking_lock (l : List Input) : (taking s l).lock = s.lock := rfl
@[simp] theorem taking_now (l : List Input) : (taking s l).now = s.now := rfl
@[simp] theorem taking_ifs (l : List Input) : (taking s l).ifs = s.ifs := rfl
@[simp] theorem taking_socks (l : List Input) : (taking s l).socks = s.socks := rfl
@[simp] theorem taking_txq (l : List Input) : (taking s l).txq = s.txq := rfl
@[simp] theorem taking_icmpq (l : List Input) : (taking s l).icmpq = s.icmpq := rfl
@[simp] theorem taking_evq (l : List Input) : (taking s l).evq = s.evq := rfl
@[simp] theorem taking_upq (l : List Input) : (taking s l).upq = s.upq := rfl
@[simp] theorem taking_cnt (l : List Input) : (taking s l).cnt = s.cnt := rfl
@[simp] theorem taking_par (l : List Input) : (taking s l).par = s.par := rfl
@[simp] theorem taking_mem (l : List Input) : (taking s l).mem = s.mem := rfl
@[simp] theorem taking_port (l : List Input) : (taking s l).port = l := rfl
@[simp] theorem taking_link (l : List Input) : (taking s l).link = s.link := rfl
@[simp] theorem taking_rtoIn (l : List Input) : (taking s l).rtoIn = s.rtoIn := rfl
@[simp] theorem taking_deferIn (l : List Input) : (taking s l).deferIn = s.deferIn := rfl
@[simp] theorem taking_free (l : List Input) : (taking s l).free = s.free := rfl
@[simp] theorem taking_out (l : List Input) : (taking s l).out = .none := rfl

/-! `linkAsked`: one scripted answer is taken, or the number of the next free value advances. -/

@[simp] theorem linkAsked_a : (linkAsked s).a = s.a := by unfold linkAsked; split <;> rfl
@[simp] theorem linkAsked_r0 : (linkAsked s).r0 = s.r0 := by unfold linkAsked; split <;> rfl
@[simp] theorem linkAsked_st : (linkAsked s).st = s.st := by unfold linkAsked; split <;> rfl
@[simp] theorem linkAsked_cmd : (linkAsked s).cmd = s.cmd := by unfold linkAsked; split <;> rfl
@[simp] theorem linkAsked_tid : (linkAsked s).tid = s.tid := by unfold linkAsked; split <;> rfl
@[simp] theorem linkAsked_lock : (linkAsked s).lock = s.lock := by unfold linkAsked; split <;> rfl
@[simp] theorem linkAsked_now : (linkAsked s).now = s.now := by unfold linkAsked; split <;> rfl
@[simp] theorem linkAsked_ifs : (linkAsked s).ifs = s.ifs := by unfold linkAsked; split <;> rfl
@[simp] theorem linkAsked_socks : (linkAsked s).socks = s.socks := by unfold linkAsked; split <;> rfl
@[simp] theorem linkAsked_txq : (linkAsked s).txq = s.txq := by unfold linkAsked; split <;> rfl
@[simp] theorem linkAsked_icmpq : (linkAsked s).icmpq = s.icmpq := by unfold linkAsked; split <;> rfl
@[simp] theorem linkAsked_evq : (linkAsked s).evq = s.evq := by unfold linkAsked; split <;> rfl
@[simp] theorem linkAsked_upq : (linkAsked s).upq = s.upq := by unfold linkAsked; split <;> rfl
@[simp] theorem linkAsked_cnt : (linkAsked s).cnt = s.cnt := by unfold linkAsked; split <;> rfl
@[simp] theorem linkAsked_par : (linkAsked s).par = s.par := by unfold linkAsked; split <;> rfl
@[simp] theorem linkAsked_mem : (linkAsked s).mem = s.mem := by unfold linkAsked; split <;> rfl
@[simp] theorem linkAsked_port : (linkAsked s).port = s.port := by unfold linkAsked; split <;> rfl
@[simp] theorem linkAsked_rtoIn : (linkAsked s).rtoIn = s.rtoIn := by unfold linkAsked; split <;> rfl
@[simp] theorem linkAsked_deferIn : (linkAsked s).deferIn = s.deferIn := by unfold linkAsked; split <;> rfl
@[simp] theorem linkAsked_out : (linkAsked s).out = s.out := by unfold linkAsked; split <;> rfl
@[simp] theorem linkAsked_link : (linkAsked s).link = s.link.tail := by
  unfold linkAsked; split <;> simp_all
@[simp] theorem linkAsked_free : (linkAsked s).free = if s.link = [] then s.free + 1 else s.free := by
  unfold linkAsked; split <;> simp_all

/-! `rtoAsked`: one scripted answer is taken, or the number of the next free value advances. -/

@[simp] theorem rtoAsked_a : (rtoAsked s).a = s.a := by unfold rtoAsked; split <;> rfl
@[simp] theorem rtoAsked_r0 : (rtoAsked s).r0 = s.r0 := by unfold rtoAsked; split <;> rfl
@[simp] theorem rtoAsked_st : (rtoAsked s).st = s.st := by unfold rtoAsked; split <;> rfl
@[simp] theorem rtoAsked_cmd : (rtoAsked s).cmd = s.cmd := by unfold rtoAsked; split <;> rfl
@[simp] theorem rtoAsked_tid : (rtoAsked s).tid = s.tid := by unfold rtoAsked; split <;> rfl
@[simp] theorem rtoAsked_lock : (rtoAsked s).lock = s.lock := by unfold rtoAsked; split <;> rfl
@[simp] theorem rtoAsked_now : (rtoAsked s).now = s.now := by unfold rtoAsked; split <;> rfl
@[simp] theorem rtoAsked_ifs : (rtoAsked s).ifs = s.ifs := by unfold rtoAsked; split <;> rfl
@[simp] theorem rtoAsked_socks : (rtoAsked s).socks = s.socks := by unfold rtoAsked; split <;> rfl
@[simp] theorem rtoAsked_txq : (rtoAsked s).txq = s.txq := by unfold rtoAsked; split <;> rfl
@[simp] theorem rtoAsked_icmpq : (rtoAsked s).icmpq = s.icmpq := by unfold rtoAsked; split <;> rfl
@[simp] theorem rtoAsked_evq : (rtoAsked s).evq = s.evq := by unfold rtoAsked; split <;> rfl
@[simp] theorem rtoAsked_upq : (rtoAsked s).upq = s.upq := by unfold rtoAsked; split <;> rfl
@[simp] theorem rtoAsked_cnt : (rtoAsked s).cnt = s.cnt := by unfold rtoAsked; split <;> rfl
@[simp] theorem rtoAsked_par : (rtoAsked s).par = s.par := by unfold rtoAsked; split <;> rfl
@[simp] theorem rtoAsked_mem : (rtoAsked s).mem = s.mem := by unfold rtoAsked; split <;> rfl
@[simp] theorem rtoAsked_port : (rtoAsked s).port = s.port := by unfold rtoAsked; split <;> rfl
@[simp] theorem rtoAsked_link : (rtoAsked s).link = s.link := by unfold rtoAsked; split <;> rfl
@[simp] theorem rtoAsked_deferIn : (rtoAsked s).deferIn = s.deferIn := by unfold rtoAsked; split <;> rfl
@[simp] theorem rtoAsked_out : (rtoAsked s).out = s.out := by unfold rtoAsked; split <;> rfl
@[simp] theorem rtoAsked_rtoIn : (rtoAsked s).rtoIn = s.rtoIn.tail := by
  unfold rtoAsked; split <;> simp_all
@[simp] theorem rtoAsked_free : (rtoAsked s).free = if s.rtoIn = [] then s.free + 1 else s.free := by
  unfold rtoAsked; split <;> simp_all

/-! `deferAsked`: one scripted answer is taken, or the number of the next free value advances. -/

@[simp] theorem deferAsked_a : (deferAsked s).a = s.a := by unfold deferAsked; split <;> rfl
@[simp] theorem deferAsked_r0 : (deferAsked s).r0 = s.r0 := by unfold deferAsked; split <;> rfl
@[simp] theorem deferAsked_st : (deferAsked s).st = s.st := by unfold deferAsked; split <;> rfl
@[simp] theorem deferAsked_cmd : (deferAsked s).cmd = s.cmd := by unfold deferAsked; split <;> rfl
@[simp] theorem deferAsked_tid : (deferAsked s).tid = s.tid := by unfold deferAsked; split <;> rfl
@[simp] theorem deferAsked_lock : (deferAsked s).lock = s.lock := by unfold deferAsked; split <;> rfl
@[simp] theorem deferAsked_now : (deferAsked s).now = s.now := by unfold deferAsked; split <;> rfl
@[simp] theorem deferAsked_ifs : (deferAsked s).ifs = s.ifs := by unfold deferAsked; split <;> rfl
@[simp] theorem deferAsked_socks : (deferAsked s).socks = s.socks := by unfold deferAsked; split <;> rfl
@[simp] theorem deferAsked_txq : (deferAsked s).txq = s.txq := by unfold deferAsked; split <;> rfl
@[simp] theorem deferAsked_icmpq : (deferAsked s).icmpq = s.icmpq := by unfold deferAsked; split <;> rfl
@[simp] theorem deferAsked_evq : (deferAsked s).evq = s.evq := by unfold deferAsked; split <;> rfl
@[simp] theorem deferAsked_upq : (deferAsked s).upq = s.upq := by unfold deferAsked; split <;> rfl
@[simp] theorem deferAsked_cnt : (deferAsked s).cnt = s.cnt := by unfold deferAsked; split <;> rfl
@[simp] theorem deferAsked_par : (deferAsked s).par = s.par := by unfold deferAsked; split <;> rfl
@[simp] theorem deferAsked_mem : (deferAsked s).mem = s.mem := by unfold deferAsked; split <;> rfl
@[simp] theorem deferAsked_port : (deferAsked s).port = s.port := by unfold deferAsked; split <;> rfl
@[simp] theorem deferAsked_link : (deferAsked s).link = s.link := by unfold deferAsked; split <;> rfl
@[simp] theorem deferAsked_rtoIn : (deferAsked s).rtoIn = s.rtoIn := by unfold deferAsked; split <;> rfl
@[simp] theorem deferAsked_out : (deferAsked s).out = s.out := by unfold deferAsked; split <;> rfl
@[simp] theorem deferAsked_deferIn : (deferAsked s).deferIn = s.deferIn.tail := by
  unfold deferAsked; split <;> simp_all
@[simp] theorem deferAsked_free : (deferAsked s).free = if s.deferIn = [] then s.free + 1 else s.free := by
  unfold deferAsked; split <;> simp_all

/-! `emitState`: the link is asked once; the packet joins `TXQ` iff it answers true. -/

@[simp] theorem emitState_a (e : TxEntry) : (emitState s e).a = s.a := by
  unfold emitState; split <;> simp
@[simp] theorem emitState_r0 (e : TxEntry) : (emitState s e).r0 = s.r0 := by
  unfold emitState; split <;> simp
@[simp] theorem emitState_st (e : TxEntry) : (emitState s e).st = s.st := by
  unfold emitState; split <;> simp
@[simp] theorem emitState_cmd (e : TxEntry) : (emitState s e).cmd = s.cmd := by
  unfold emitState; split <;> simp
@[simp] theorem emitState_tid (e : TxEntry) : (emitState s e).tid = s.tid := by
  unfold emitState; split <;> simp
@[simp] theorem emitState_lock (e : TxEntry) : (emitState s e).lock = s.lock := by
  unfold emitState; split <;> simp
@[simp] theorem emitState_now (e : TxEntry) : (emitState s e).now = s.now := by
  unfold emitState; split <;> simp
@[simp] theorem emitState_ifs (e : TxEntry) : (emitState s e).ifs = s.ifs := by
  unfold emitState; split <;> simp
@[simp] theorem emitState_socks (e : TxEntry) : (emitState s e).socks = s.socks := by
  unfold emitState; split <;> simp
@[simp] theorem emitState_icmpq (e : TxEntry) : (emitState s e).icmpq = s.icmpq := by
  unfold emitState; split <;> simp
@[simp] theorem emitState_evq (e : TxEntry) : (emitState s e).evq = s.evq := by
  unfold emitState; split <;> simp
@[simp] theorem emitState_upq (e : TxEntry) : (emitState s e).upq = s.upq := by
  unfold emitState; split <;> simp
@[simp] theorem emitState_cnt (e : TxEntry) : (emitState s e).cnt = s.cnt := by
  unfold emitState; split <;> simp
@[simp] theorem emitState_par (e : TxEntry) : (emitState s e).par = s.par := by
  unfold emitState; split <;> simp
@[simp] theorem emitState_mem (e : TxEntry) : (emitState s e).mem = s.mem := by
  unfold emitState; split <;> simp
@[simp] theorem emitState_port (e : TxEntry) : (emitState s e).port = s.port := by
  unfold emitState; split <;> simp
@[simp] theorem emitState_rtoIn (e : TxEntry) : (emitState s e).rtoIn = s.rtoIn := by
  unfold emitState; split <;> simp
@[simp] theorem emitState_deferIn (e : TxEntry) : (emitState s e).deferIn = s.deferIn := by
  unfold emitState; split <;> simp
@[simp] theorem emitState_out (e : TxEntry) : (emitState s e).out = s.out := by
  unfold emitState; split <;> simp
@[simp] theorem emitState_link (e : TxEntry) : (emitState s e).link = s.link.tail := by
  unfold emitState; split <;> simp
@[simp] theorem emitState_free (e : TxEntry) :
    (emitState s e).free = if s.link = [] then s.free + 1 else s.free := by
  unfold emitState; split <;> simp
@[simp] theorem emitState_txq (e : TxEntry) :
    (emitState s e).txq = if linkAnswer s then s.txq ++ [e] else s.txq := by
  unfold emitState; split <;> simp_all

end Sys2Proof.Machine
end

