-- ==== Sys2Proof/Laws/Views.lean ====
section
/-! SUPPORT. The views of State (a record, an interface, a slot, an operand register, the next answers) after an
update that does not concern them. -/

namespace Sys2Proof.Machine

variable (s : State)


/-! `setR0` -/

@[simp] theorem setR0_sock (v : Word) (n : Nat) : (setR0 s v).sock n = s.sock n := rfl
@[simp] theorem setR0_iface (v : Word) (n : Nat) : (setR0 s v).iface n = s.iface n := rfl
@[simp] theorem setR0_slot (v : Word) (n q : Nat) : (setR0 s v).slot n q = s.slot n q := rfl
@[simp] theorem setR0_reg (v : Word) (r : Fin 8) : (setR0 s v).reg r = s.reg r := rfl
@[simp] theorem setR0_written (v : Word) (r : Fin 8) : (setR0 s v).written r = s.written r := rfl
@[simp] theorem setR0_hasIface (v : Word) (x : Byte) : (setR0 s v).hasIface x = s.hasIface x := rfl
@[simp] theorem setR0_hasSock (v : Word) (x : Byte) : (setR0 s v).hasSock x = s.hasSock x := rfl
@[simp] theorem setR0_linkAnswer (v : Word) : linkAnswer (setR0 s v) = linkAnswer s := rfl
@[simp] theorem setR0_rtoAnswer (v : Word) : rtoAnswer (setR0 s v) = rtoAnswer s := rfl
@[simp] theorem setR0_deferAnswer (v : Word) : deferAnswer (setR0 s v) = deferAnswer s := rfl

/-! `setOut` -/

@[simp] theorem setOut_sock (o : Output) (n : Nat) : (setOut s o).sock n = s.sock n := rfl
@[simp] theorem setOut_iface (o : Output) (n : Nat) : (setOut s o).iface n = s.iface n := rfl
@[simp] theorem setOut_slot (o : Output) (n q : Nat) : (setOut s o).slot n q = s.slot n q := rfl
@[simp] theorem setOut_reg (o : Output) (r : Fin 8) : (setOut s o).reg r = s.reg r := rfl
@[simp] theorem setOut_written (o : Output) (r : Fin 8) : (setOut s o).written r = s.written r := rfl
@[simp] theorem setOut_hasIface (o : Output) (x : Byte) : (setOut s o).hasIface x = s.hasIface x := rfl
@[simp] theorem setOut_hasSock (o : Output) (x : Byte) : (setOut s o).hasSock x = s.hasSock x := rfl
@[simp] theorem setOut_linkAnswer (o : Output) : linkAnswer (setOut s o) = linkAnswer s := rfl
@[simp] theorem setOut_rtoAnswer (o : Output) : rtoAnswer (setOut s o) = rtoAnswer s := rfl
@[simp] theorem setOut_deferAnswer (o : Output) : deferAnswer (setOut s o) = deferAnswer s := rfl

/-! `setLock` -/

@[simp] theorem setLock_sock (l : Lock) (n : Nat) : (setLock s l).sock n = s.sock n := rfl
@[simp] theorem setLock_iface (l : Lock) (n : Nat) : (setLock s l).iface n = s.iface n := rfl
@[simp] theorem setLock_slot (l : Lock) (n q : Nat) : (setLock s l).slot n q = s.slot n q := rfl
@[simp] theorem setLock_reg (l : Lock) (r : Fin 8) : (setLock s l).reg r = s.reg r := rfl
@[simp] theorem setLock_written (l : Lock) (r : Fin 8) : (setLock s l).written r = s.written r := rfl
@[simp] theorem setLock_hasIface (l : Lock) (x : Byte) : (setLock s l).hasIface x = s.hasIface x := rfl
@[simp] theorem setLock_hasSock (l : Lock) (x : Byte) : (setLock s l).hasSock x = s.hasSock x := rfl
@[simp] theorem setLock_linkAnswer (l : Lock) : linkAnswer (setLock s l) = linkAnswer s := rfl
@[simp] theorem setLock_rtoAnswer (l : Lock) : rtoAnswer (setLock s l) = rtoAnswer s := rfl
@[simp] theorem setLock_deferAnswer (l : Lock) : deferAnswer (setLock s l) = deferAnswer s := rfl

/-! `setMem` -/

@[simp] theorem setMem_sock (m : Memory) (n : Nat) : (setMem s m).sock n = s.sock n := rfl
@[simp] theorem setMem_iface (m : Memory) (n : Nat) : (setMem s m).iface n = s.iface n := rfl
@[simp] theorem setMem_slot (m : Memory) (n q : Nat) : (setMem s m).slot n q = s.slot n q := rfl
@[simp] theorem setMem_reg (m : Memory) (r : Fin 8) : (setMem s m).reg r = s.reg r := rfl
@[simp] theorem setMem_written (m : Memory) (r : Fin 8) : (setMem s m).written r = s.written r := rfl
@[simp] theorem setMem_hasIface (m : Memory) (x : Byte) : (setMem s m).hasIface x = s.hasIface x := rfl
@[simp] theorem setMem_hasSock (m : Memory) (x : Byte) : (setMem s m).hasSock x = s.hasSock x := rfl
@[simp] theorem setMem_linkAnswer (m : Memory) : linkAnswer (setMem s m) = linkAnswer s := rfl
@[simp] theorem setMem_rtoAnswer (m : Memory) : rtoAnswer (setMem s m) = rtoAnswer s := rfl
@[simp] theorem setMem_deferAnswer (m : Memory) : deferAnswer (setMem s m) = deferAnswer s := rfl

/-! `count` -/

@[simp] theorem count_sock (c : Cause) (n : Nat) : (count s c).sock n = s.sock n := rfl
@[simp] theorem count_iface (c : Cause) (n : Nat) : (count s c).iface n = s.iface n := rfl
@[simp] theorem count_slot (c : Cause) (n q : Nat) : (count s c).slot n q = s.slot n q := rfl
@[simp] theorem count_reg (c : Cause) (r : Fin 8) : (count s c).reg r = s.reg r := rfl
@[simp] theorem count_written (c : Cause) (r : Fin 8) : (count s c).written r = s.written r := rfl
@[simp] theorem count_hasIface (c : Cause) (x : Byte) : (count s c).hasIface x = s.hasIface x := rfl
@[simp] theorem count_hasSock (c : Cause) (x : Byte) : (count s c).hasSock x = s.hasSock x := rfl
@[simp] theorem count_linkAnswer (c : Cause) : linkAnswer (count s c) = linkAnswer s := rfl
@[simp] theorem count_rtoAnswer (c : Cause) : rtoAnswer (count s c) = rtoAnswer s := rfl
@[simp] theorem count_deferAnswer (c : Cause) : deferAnswer (count s c) = deferAnswer s := rfl

/-! `done` -/

@[simp] theorem done_sock (c : Cause) (n : Nat) : (done s c).sock n = s.sock n := rfl
@[simp] theorem done_iface (c : Cause) (n : Nat) : (done s c).iface n = s.iface n := rfl
@[simp] theorem done_slot (c : Cause) (n q : Nat) : (done s c).slot n q = s.slot n q := rfl
@[simp] theorem done_reg (c : Cause) (r : Fin 8) : (done s c).reg r = s.reg r := rfl
@[simp] theorem done_written (c : Cause) (r : Fin 8) : (done s c).written r = s.written r := rfl
@[simp] theorem done_hasIface (c : Cause) (x : Byte) : (done s c).hasIface x = s.hasIface x := rfl
@[simp] theorem done_hasSock (c : Cause) (x : Byte) : (done s c).hasSock x = s.hasSock x := rfl
@[simp] theorem done_linkAnswer (c : Cause) : linkAnswer (done s c) = linkAnswer s := rfl
@[simp] theorem done_rtoAnswer (c : Cause) : rtoAnswer (done s c) = rtoAnswer s := rfl
@[simp] theorem done_deferAnswer (c : Cause) : deferAnswer (done s c) = deferAnswer s := rfl

/-! `drop` -/

@[simp] theorem drop_sock (c : Cause) (n : Nat) : (drop s c).sock n = s.sock n := rfl
@[simp] theorem drop_iface (c : Cause) (n : Nat) : (drop s c).iface n = s.iface n := rfl
@[simp] theorem drop_slot (c : Cause) (n q : Nat) : (drop s c).slot n q = s.slot n q := rfl
@[simp] theorem drop_reg (c : Cause) (r : Fin 8) : (drop s c).reg r = s.reg r := rfl
@[simp] theorem drop_written (c : Cause) (r : Fin 8) : (drop s c).written r = s.written r := rfl
@[simp] theorem drop_hasIface (c : Cause) (x : Byte) : (drop s c).hasIface x = s.hasIface x := rfl
@[simp] theorem drop_hasSock (c : Cause) (x : Byte) : (drop s c).hasSock x = s.hasSock x := rfl
@[simp] theorem drop_linkAnswer (c : Cause) : linkAnswer (drop s c) = linkAnswer s := rfl
@[simp] theorem drop_rtoAnswer (c : Cause) : rtoAnswer (drop s c) = rtoAnswer s := rfl
@[simp] theorem drop_deferAnswer (c : Cause) : deferAnswer (drop s c) = deferAnswer s := rfl

/-! `raiseIcmp` -/

@[simp] theorem raiseIcmp_sock (i y c : Byte) (p : Word) (b : Bytes) (n : Nat) :
    (raiseIcmp s i y c p b).sock n = s.sock n := rfl
@[simp] theorem raiseIcmp_iface (i y c : Byte) (p : Word) (b : Bytes) (n : Nat) :
    (raiseIcmp s i y c p b).iface n = s.iface n := rfl
@[simp] theorem raiseIcmp_slot (i y c : Byte) (p : Word) (b : Bytes) (n q : Nat) :
    (raiseIcmp s i y c p b).slot n q = s.slot n q := rfl
@[simp] theorem raiseIcmp_reg (i y c : Byte) (p : Word) (b : Bytes) (r : Fin 8) :
    (raiseIcmp s i y c p b).reg r = s.reg r := rfl
@[simp] theorem raiseIcmp_written (i y c : Byte) (p : Word) (b : Bytes) (r : Fin 8) :
    (raiseIcmp s i y c p b).written r = s.written r := rfl
@[simp] theorem raiseIcmp_hasIface (i y c : Byte) (p : Word) (b : Bytes) (x : Byte) :
    (raiseIcmp s i y c p b).hasIface x = s.hasIface x := rfl
@[simp] theorem raiseIcmp_hasSock (i y c : Byte) (p : Word) (b : Bytes) (x : Byte) :
    (raiseIcmp s i y c p b).hasSock x = s.hasSock x := rfl
@[simp] theorem raiseIcmp_linkAnswer (i y c : Byte) (p : Word) (b : Bytes) :
    linkAnswer (raiseIcmp s i y c p b) = linkAnswer s := rfl
@[simp] theorem raiseIcmp_rtoAnswer (i y c : Byte) (p : Word) (b : Bytes) :
    rtoAnswer (raiseIcmp s i y c p b) = rtoAnswer s := rfl
@[simp] theorem raiseIcmp_deferAnswer (i y c : Byte) (p : Word) (b : Bytes) :
    deferAnswer (raiseIcmp s i y c p b) = deferAnswer s := rfl

/-! `signal` -/

@[simp] theorem signal_sock (i : Nat) (e : EventKind) (n : Nat) : (signal s i e).sock n = s.sock n := rfl
@[simp] theorem signal_iface (i : Nat) (e : EventKind) (n : Nat) : (signal s i e).iface n = s.iface n := rfl
@[simp] theorem signal_slot (i : Nat) (e : EventKind) (n q : Nat) : (signal s i e).slot n q = s.slot n q := rfl
@[simp] theorem signal_reg (i : Nat) (e : EventKind) (r : Fin 8) : (signal s i e).reg r = s.reg r := rfl
@[simp] theorem signal_written (i : Nat) (e : EventKind) (r : Fin 8) : (signal s i e).written r = s.written r := rfl
@[simp] theorem signal_hasIface (i : Nat) (e : EventKind) (x : Byte) : (signal s i e).hasIface x = s.hasIface x := rfl
@[simp] theorem signal_hasSock (i : Nat) (e : EventKind) (x : Byte) : (signal s i e).hasSock x = s.hasSock x := rfl
@[simp] theorem signal_linkAnswer (i : Nat) (e : EventKind) : linkAnswer (signal s i e) = linkAnswer s := rfl
@[simp] theorem signal_rtoAnswer (i : Nat) (e : EventKind) : rtoAnswer (signal s i e) = rtoAnswer s := rfl
@[simp] theorem signal_deferAnswer (i : Nat) (e : EventKind) : deferAnswer (signal s i e) = deferAnswer s := rfl

/-! `pushUp` -/

@[simp] theorem pushUp_sock (e : UpEntry) (n : Nat) : (pushUp s e).sock n = s.sock n := rfl
@[simp] theorem pushUp_iface (e : UpEntry) (n : Nat) : (pushUp s e).iface n = s.iface n := rfl
@[simp] theorem pushUp_slot (e : UpEntry) (n q : Nat) : (pushUp s e).slot n q = s.slot n q := rfl
@[simp] theorem pushUp_reg (e : UpEntry) (r : Fin 8) : (pushUp s e).reg r = s.reg r := rfl
@[simp] theorem pushUp_written (e : UpEntry) (r : Fin 8) : (pushUp s e).written r = s.written r := rfl
@[simp] theorem pushUp_hasIface (e : UpEntry) (x : Byte) : (pushUp s e).hasIface x = s.hasIface x := rfl
@[simp] theorem pushUp_hasSock (e : UpEntry) (x : Byte) : (pushUp s e).hasSock x = s.hasSock x := rfl
@[simp] theorem pushUp_linkAnswer (e : UpEntry) : linkAnswer (pushUp s e) = linkAnswer s := rfl
@[simp] theorem pushUp_rtoAnswer (e : UpEntry) : rtoAnswer (pushUp s e) = rtoAnswer s := rfl
@[simp] theorem pushUp_deferAnswer (e : UpEntry) : deferAnswer (pushUp s e) = deferAnswer s := rfl

/-! `setIface` -/

@[simp] theorem setIface_sock (i : Nat) (f : Iface) (n : Nat) : (setIface s i f).sock n = s.sock n := rfl
@[simp] theorem setIface_reg (i : Nat) (f : Iface) (r : Fin 8) : (setIface s i f).reg r = s.reg r := rfl
@[simp] theorem setIface_written (i : Nat) (f : Iface) (r : Fin 8) : (setIface s i f).written r = s.written r := rfl
@[simp] theorem setIface_hasIface (i : Nat) (f : Iface) (x : Byte) : (setIface s i f).hasIface x = s.hasIface x := rfl
@[simp] theorem setIface_hasSock (i : Nat) (f : Iface) (x : Byte) : (setIface s i f).hasSock x = s.hasSock x := rfl
@[simp] theorem setIface_linkAnswer (i : Nat) (f : Iface) : linkAnswer (setIface s i f) = linkAnswer s := rfl
@[simp] theorem setIface_rtoAnswer (i : Nat) (f : Iface) : rtoAnswer (setIface s i f) = rtoAnswer s := rfl
@[simp] theorem setIface_deferAnswer (i : Nat) (f : Iface) : deferAnswer (setIface s i f) = deferAnswer s := rfl

/-! `setSock` -/

@[simp] theorem setSock_iface (i : Nat) (k : Sock) (n : Nat) : (setSock s i k).iface n = s.iface n := rfl
@[simp] theorem setSock_slot (i : Nat) (k : Sock) (n q : Nat) : (setSock s i k).slot n q = s.slot n q := rfl
@[simp] theorem setSock_reg (i : Nat) (k : Sock) (r : Fin 8) : (setSock s i k).reg r = s.reg r := rfl
@[simp] theorem setSock_written (i : Nat) (k : Sock) (r : Fin 8) : (setSock s i k).written r = s.written r := rfl
@[simp] theorem setSock_hasIface (i : Nat) (k : Sock) (x : Byte) : (setSock s i k).hasIface x = s.hasIface x := rfl
@[simp] theorem setSock_hasSock (i : Nat) (k : Sock) (x : Byte) : (setSock s i k).hasSock x = s.hasSock x := rfl
@[simp] theorem setSock_linkAnswer (i : Nat) (k : Sock) : linkAnswer (setSock s i k) = linkAnswer s := rfl
@[simp] theorem setSock_rtoAnswer (i : Nat) (k : Sock) : rtoAnswer (setSock s i k) = rtoAnswer s := rfl
@[simp] theorem setSock_deferAnswer (i : Nat) (k : Sock) : deferAnswer (setSock s i k) = deferAnswer s := rfl

/-! `updSock` -/

@[simp] theorem updSock_iface (i : Nat) (g : Sock → Sock) (n : Nat) : (updSock s i g).iface n = s.iface n := rfl
@[simp] theorem updSock_slot (i : Nat) (g : Sock → Sock) (n q : Nat) : (updSock s i g).slot n q = s.slot n q := rfl
@[simp] theorem updSock_reg (i : Nat) (g : Sock → Sock) (r : Fin 8) : (updSock s i g).reg r = s.reg r := rfl
@[simp] theorem updSock_written (i : Nat) (g : Sock → Sock) (r : Fin 8) :
    (updSock s i g).written r = s.written r := rfl
@[simp] theorem updSock_hasIface (i : Nat) (g : Sock → Sock) (x : Byte) :
    (updSock s i g).hasIface x = s.hasIface x := rfl
@[simp] theorem updSock_hasSock (i : Nat) (g : Sock → Sock) (x : Byte) :
    (updSock s i g).hasSock x = s.hasSock x := rfl
@[simp] theorem updSock_linkAnswer (i : Nat) (g : Sock → Sock) : linkAnswer (updSock s i g) = linkAnswer s := rfl
@[simp] theorem updSock_rtoAnswer (i : Nat) (g : Sock → Sock) : rtoAnswer (updSock s i g) = rtoAnswer s := rfl
@[simp] theorem updSock_deferAnswer (i : Nat) (g : Sock → Sock) : deferAnswer (updSock s i g) = deferAnswer s := rfl

/-! `recycle` -/

@[simp] theorem recycle_iface (i : Nat) (n : Nat) : (recycle s i).iface n = s.iface n := rfl
@[simp] theorem recycle_slot (i : Nat) (n q : Nat) : (recycle s i).slot n q = s.slot n q := rfl
@[simp] theorem recycle_reg (i : Nat) (r : Fin 8) : (recycle s i).reg r = s.reg r := rfl
@[simp] theorem recycle_written (i : Nat) (r : Fin 8) : (recycle s i).written r = s.written r := rfl
@[simp] theorem recycle_hasIface (i : Nat) (x : Byte) : (recycle s i).hasIface x = s.hasIface x := rfl
@[simp] theorem recycle_hasSock (i : Nat) (x : Byte) : (recycle s i).hasSock x = s.hasSock x := rfl
@[simp] theorem recycle_linkAnswer (i : Nat) : linkAnswer (recycle s i) = linkAnswer s := rfl
@[simp] theorem recycle_rtoAnswer (i : Nat) : rtoAnswer (recycle s i) = rtoAnswer s := rfl
@[simp] theorem recycle_deferAnswer (i : Nat) : deferAnswer (recycle s i) = deferAnswer s := rfl

/-! `setSlot` -/

@[simp] theorem setSlot_sock (i j : Nat) (f : Slot) (n : Nat) : (setSlot s i j f).sock n = s.sock n := rfl
@[simp] theorem setSlot_reg (i j : Nat) (f : Slot) (r : Fin 8) : (setSlot s i j f).reg r = s.reg r := rfl
@[simp] theorem setSlot_written (i j : Nat) (f : Slot) (r : Fin 8) : (setSlot s i j f).written r = s.written r := rfl
@[simp] theorem setSlot_hasIface (i j : Nat) (f : Slot) (x : Byte) :
    (setSlot s i j f).hasIface x = s.hasIface x := rfl
@[simp] theorem setSlot_hasSock (i j : Nat) (f : Slot) (x : Byte) : (setSlot s i j f).hasSock x = s.hasSock x := rfl
@[simp] theorem setSlot_linkAnswer (i j : Nat) (f : Slot) : linkAnswer (setSlot s i j f) = linkAnswer s := rfl
@[simp] theorem setSlot_rtoAnswer (i j : Nat) (f : Slot) : rtoAnswer (setSlot s i j f) = rtoAnswer s := rfl
@[simp] theorem setSlot_deferAnswer (i j : Nat) (f : Slot) : deferAnswer (setSlot s i j f) = deferAnswer s := rfl

/-! `releaseSlot` -/

@[simp] theorem releaseSlot_sock (i j : Nat) (n : Nat) : (releaseSlot s i j).sock n = s.sock n := rfl
@[simp] theorem releaseSlot_reg (i j : Nat) (r : Fin 8) : (releaseSlot s i j).reg r = s.reg r := rfl
@[simp] theorem releaseSlot_written (i j : Nat) (r : Fin 8) : (releaseSlot s i j).written r = s.written r := rfl
@[simp] theorem releaseSlot_hasIface (i j : Nat) (x : Byte) : (releaseSlot s i j).hasIface x = s.hasIface x := rfl
@[simp] theorem releaseSlot_hasSock (i j : Nat) (x : Byte) : (releaseSlot s i j).hasSock x = s.hasSock x := rfl
@[simp] theorem releaseSlot_linkAnswer (i j : Nat) : linkAnswer (releaseSlot s i j) = linkAnswer s := rfl
@[simp] theorem releaseSlot_rtoAnswer (i j : Nat) : rtoAnswer (releaseSlot s i j) = rtoAnswer s := rfl
@[simp] theorem releaseSlot_deferAnswer (i j : Nat) : deferAnswer (releaseSlot s i j) = deferAnswer s := rfl

/-! `advanceId` -/

@[simp] theorem advanceId_sock (i : Nat) (n : Nat) : (advanceId s i).sock n = s.sock n := rfl
@[simp] theorem advanceId_reg (i : Nat) (r : Fin 8) : (advanceId s i).reg r = s.reg r := rfl
@[simp] theorem advanceId_written (i : Nat) (r : Fin 8) : (advanceId s i).written r = s.written r := rfl
@[simp] theorem advanceId_hasIface (i : Nat) (x : Byte) : (advanceId s i).hasIface x = s.hasIface x := rfl
@[simp] theorem advanceId_hasSock (i : Nat) (x : Byte) : (advanceId s i).hasSock x = s.hasSock x := rfl
@[simp] theorem advanceId_linkAnswer (i : Nat) : linkAnswer (advanceId s i) = linkAnswer s := rfl
@[simp] theorem advanceId_rtoAnswer (i : Nat) : rtoAnswer (advanceId s i) = rtoAnswer s := rfl
@[simp] theorem advanceId_deferAnswer (i : Nat) : deferAnswer (advanceId s i) = deferAnswer s := rfl

/-! `setReg` -/

@[simp] theorem setReg_sock (i : Fin 8) (v : Word) (n : Nat) : (setReg s i v).sock n = s.sock n := rfl
@[simp] theorem setReg_iface (i : Fin 8) (v : Word) (n : Nat) : (setReg s i v).iface n = s.iface n := rfl
@[simp] theorem setReg_slot (i : Fin 8) (v : Word) (n q : Nat) : (setReg s i v).slot n q = s.slot n q := rfl
@[simp] theorem setReg_hasIface (i : Fin 8) (v : Word) (x : Byte) : (setReg s i v).hasIface x = s.hasIface x := rfl
@[simp] theorem setReg_hasSock (i : Fin 8) (v : Word) (x : Byte) : (setReg s i v).hasSock x = s.hasSock x := rfl
@[simp] theorem setReg_linkAnswer (i : Fin 8) (v : Word) : linkAnswer (setReg s i v) = linkAnswer s := rfl
@[simp] theorem setReg_rtoAnswer (i : Fin 8) (v : Word) : rtoAnswer (setReg s i v) = rtoAnswer s := rfl
@[simp] theorem setReg_deferAnswer (i : Fin 8) (v : Word) : deferAnswer (setReg s i v) = deferAnswer s := rfl

/-! `advanceNow` -/

@[simp] theorem advanceNow_sock (n : Nat) : (advanceNow s).sock n = s.sock n := rfl
@[simp] theorem advanceNow_iface (n : Nat) : (advanceNow s).iface n = s.iface n := rfl
@[simp] theorem advanceNow_slot (n q : Nat) : (advanceNow s).slot n q = s.slot n q := rfl
@[simp] theorem advanceNow_reg (r : Fin 8) : (advanceNow s).reg r = s.reg r := rfl
@[simp] theorem advanceNow_written (r : Fin 8) : (advanceNow s).written r = s.written r := rfl
@[simp] theorem advanceNow_hasIface (x : Byte) : (advanceNow s).hasIface x = s.hasIface x := rfl
@[simp] theorem advanceNow_hasSock (x : Byte) : (advanceNow s).hasSock x = s.hasSock x := rfl
@[simp] theorem advanceNow_linkAnswer : linkAnswer (advanceNow s) = linkAnswer s := rfl
@[simp] theorem advanceNow_rtoAnswer : rtoAnswer (advanceNow s) = rtoAnswer s := rfl
@[simp] theorem advanceNow_deferAnswer : deferAnswer (advanceNow s) = deferAnswer s := rfl

/-! `latched` -/

@[simp] theorem latched_sock (w : Word) (t : Byte) (n : Nat) : (latched w t s).sock n = s.sock n := rfl
@[simp] theorem latched_iface (w : Word) (t : Byte) (n : Nat) : (latched w t s).iface n = s.iface n := rfl
@[simp] theorem latched_slot (w : Word) (t : Byte) (n q : Nat) : (latched w t s).slot n q = s.slot n q := rfl
@[simp] theorem latched_reg (w : Word) (t : Byte) (r : Fin 8) : (latched w t s).reg r = s.reg r := rfl
@[simp] theorem latched_written (w : Word) (t : Byte) (r : Fin 8) : (latched w t s).written r = s.written r := rfl
@[simp] theorem latched_hasIface (w : Word) (t : Byte) (x : Byte) : (latched w t s).hasIface x = s.hasIface x := rfl
@[simp] theorem latched_hasSock (w : Word) (t : Byte) (x : Byte) : (latched w t s).hasSock x = s.hasSock x := rfl
@[simp] theorem latched_linkAnswer (w : Word) (t : Byte) : linkAnswer (latched w t s) = linkAnswer s := rfl
@[simp] theorem latched_rtoAnswer (w : Word) (t : Byte) : rtoAnswer (latched w t s) = rtoAnswer s := rfl
@[simp] theorem latched_deferAnswer (w : Word) (t : Byte) : deferAnswer (latched w t s) = deferAnswer s := rfl

/-! `taking` -/

@[simp] theorem taking_sock (l : List Input) (n : Nat) : (taking s l).sock n = s.sock n := rfl
@[simp] theorem taking_iface (l : List Input) (n : Nat) : (taking s l).iface n = s.iface n := rfl
@[simp] theorem taking_slot (l : List Input) (n q : Nat) : (taking s l).slot n q = s.slot n q := rfl
@[simp] theorem taking_reg (l : List Input) (r : Fin 8) : (taking s l).reg r = s.reg r := rfl
@[simp] theorem taking_written (l : List Input) (r : Fin 8) : (taking s l).written r = s.written r := rfl
@[simp] theorem taking_hasIface (l : List Input) (x : Byte) : (taking s l).hasIface x = s.hasIface x := rfl
@[simp] theorem taking_hasSock (l : List Input) (x : Byte) : (taking s l).hasSock x = s.hasSock x := rfl
@[simp] theorem taking_linkAnswer (l : List Input) : linkAnswer (taking s l) = linkAnswer s := rfl
@[simp] theorem taking_rtoAnswer (l : List Input) : rtoAnswer (taking s l) = rtoAnswer s := rfl
@[simp] theorem taking_deferAnswer (l : List Input) : deferAnswer (taking s l) = deferAnswer s := rfl

/-! `linkAsked` -/

@[simp] theorem linkAsked_sock (n : Nat) : (linkAsked s).sock n = s.sock n := by
  unfold linkAsked; split <;> rfl
@[simp] theorem linkAsked_iface (n : Nat) : (linkAsked s).iface n = s.iface n := by
  unfold linkAsked; split <;> rfl
@[simp] theorem linkAsked_slot (n q : Nat) : (linkAsked s).slot n q = s.slot n q := by
  unfold linkAsked; split <;> rfl
@[simp] theorem linkAsked_reg (r : Fin 8) : (linkAsked s).reg r = s.reg r := by
  unfold linkAsked; split <;> rfl
@[simp] theorem linkAsked_written (r : Fin 8) : (linkAsked s).written r = s.written r := by
  unfold linkAsked; split <;> rfl
@[simp] theorem linkAsked_hasIface (x : Byte) : (linkAsked s).hasIface x = s.hasIface x := by
  unfold linkAsked; split <;> rfl
@[simp] theorem linkAsked_hasSock (x : Byte) : (linkAsked s).hasSock x = s.hasSock x := by
  unfold linkAsked; split <;> rfl

/-! `rtoAsked` -/

@[simp] theorem rtoAsked_sock (n : Nat) : (rtoAsked s).sock n = s.sock n := by
  unfold rtoAsked; split <;> rfl
@[simp] theorem rtoAsked_iface (n : Nat) : (rtoAsked s).iface n = s.iface n := by
  unfold rtoAsked; split <;> rfl
@[simp] theorem rtoAsked_slot (n q : Nat) : (rtoAsked s).slot n q = s.slot n q := by
  unfold rtoAsked; split <;> rfl
@[simp] theorem rtoAsked_reg (r : Fin 8) : (rtoAsked s).reg r = s.reg r := by
  unfold rtoAsked; split <;> rfl
@[simp] theorem rtoAsked_written (r : Fin 8) : (rtoAsked s).written r = s.written r := by
  unfold rtoAsked; split <;> rfl
@[simp] theorem rtoAsked_hasIface (x : Byte) : (rtoAsked s).hasIface x = s.hasIface x := by
  unfold rtoAsked; split <;> rfl
@[simp] theorem rtoAsked_hasSock (x : Byte) : (rtoAsked s).hasSock x = s.hasSock x := by
  unfold rtoAsked; split <;> rfl

/-! `deferAsked` -/

@[simp] theorem deferAsked_sock (n : Nat) : (deferAsked s).sock n = s.sock n := by
  unfold deferAsked; split <;> rfl
@[simp] theorem deferAsked_iface (n : Nat) : (deferAsked s).iface n = s.iface n := by
  unfold deferAsked; split <;> rfl
@[simp] theorem deferAsked_slot (n q : Nat) : (deferAsked s).slot n q = s.slot n q := by
  unfold deferAsked; split <;> rfl
@[simp] theorem deferAsked_reg (r : Fin 8) : (deferAsked s).reg r = s.reg r := by
  unfold deferAsked; split <;> rfl
@[simp] theorem deferAsked_written (r : Fin 8) : (deferAsked s).written r = s.written r := by
  unfold deferAsked; split <;> rfl
@[simp] theorem deferAsked_hasIface (x : Byte) : (deferAsked s).hasIface x = s.hasIface x := by
  unfold deferAsked; split <;> rfl
@[simp] theorem deferAsked_hasSock (x : Byte) : (deferAsked s).hasSock x = s.hasSock x := by
  unfold deferAsked; split <;> rfl

/-! `emitState` -/

@[simp] theorem emitState_sock (e : TxEntry) (n : Nat) : (emitState s e).sock n = s.sock n := by
  unfold emitState; split <;> simp [State.sock]
@[simp] theorem emitState_iface (e : TxEntry) (n : Nat) : (emitState s e).iface n = s.iface n := by
  unfold emitState; split <;> simp [State.iface]
@[simp] theorem emitState_slot (e : TxEntry) (n q : Nat) : (emitState s e).slot n q = s.slot n q := by
  unfold emitState; split <;> simp [State.slot, State.iface]
@[simp] theorem emitState_reg (e : TxEntry) (r : Fin 8) : (emitState s e).reg r = s.reg r := by
  unfold emitState; split <;> simp [State.reg]
@[simp] theorem emitState_written (e : TxEntry) (r : Fin 8) : (emitState s e).written r = s.written r := by
  unfold emitState; split <;> simp [State.written]
@[simp] theorem emitState_hasIface (e : TxEntry) (x : Byte) : (emitState s e).hasIface x = s.hasIface x := by
  unfold emitState; split <;> simp [State.hasIface]
@[simp] theorem emitState_hasSock (e : TxEntry) (x : Byte) : (emitState s e).hasSock x = s.hasSock x := by
  unfold emitState; split <;> simp [State.hasSock]

end Sys2Proof.Machine
end

