-- ==== Sys2Proof/Laws/Memory.lean ====
section
/-! SUPPORT. Buffer memory: read after write, and every operation keeps the canonical form. -/

namespace Sys2Proof.Machine

theorem memGet_memSet_same (m : Memory) (a : Nat) (b : Byte) (lo : Nat) (h : memWfFrom lo m) :
    memGet (memSet m a b) a = b := by
  induction m generalizing lo with
  | nil => unfold memSet; split <;> simp_all [memGet]
  | cons c rest ih =>
    obtain ⟨k, v⟩ := c
    simp only [memWfFrom, Bool.and_eq_true, decide_eq_true_eq] at h
    have above : ∀ (r : Memory) (l : Nat), memWfFrom l r = true → a < l → memGet r a = blank := by
      intro r
      induction r with
      | nil => intros; rfl
      | cons d r ihr =>
        intro l hl hal
        obtain ⟨k', v'⟩ := d
        simp only [memWfFrom, Bool.and_eq_true, decide_eq_true_eq] at hl
        have : k' ≠ a := by omega
        simp only [memGet, this, if_false]
        exact ihr (k' + 1) hl.2 (by omega)
    unfold memSet
    split
    · split
      · have : k ≠ a := by omega
        subst_vars
        simp only [memGet, this, if_false]
        exact above rest (k + 1) h.2 (by omega)
      · simp [memGet]
    · split
      · split
        · subst_vars; exact above rest _ h.2 (by omega)
        · simp [memGet]
      · have : k ≠ a := by omega
        simp only [memGet, this, if_false]
        exact ih (k + 1) h.2

theorem memGet_memSet_other (m : Memory) (a a' : Nat) (b : Byte) (h : a' ≠ a) :
    memGet (memSet m a b) a' = memGet m a' := by
  induction m with
  | nil => unfold memSet; split <;> simp [memGet, h.symm]
  | cons c rest ih =>
    obtain ⟨k, v⟩ := c
    unfold memSet
    split
    · split <;> simp [memGet, h.symm]
    · split
      · subst_vars; split <;> simp [memGet, h.symm]
      · simp [memGet, ih]

theorem memWfFrom_mono (m : Memory) (lo lo' : Nat) (h : memWfFrom lo m) (hle : lo' ≤ lo) :
    memWfFrom lo' m := by
  cases m with
  | nil => rfl
  | cons c rest =>
    simp only [memWfFrom, Bool.and_eq_true, decide_eq_true_eq] at *
    exact ⟨⟨⟨Nat.le_trans hle h.1.1.1, h.1.1.2⟩, h.1.2⟩, h.2⟩

theorem memSet_wfFrom (m : Memory) (a : Nat) (b : Byte) (lo : Nat) (h : memWfFrom lo m) (hlo : lo ≤ a)
    (ha : a < 2 ^ 32) : memWfFrom lo (memSet m a b) := by
  induction m generalizing lo with
  | nil => unfold memSet; split <;> simp_all [memWfFrom]
  | cons c rest ih =>
    obtain ⟨k, v⟩ := c
    have h' := h
    simp only [memWfFrom, Bool.and_eq_true, decide_eq_true_eq] at h'
    unfold memSet
    split
    · split
      · exact h
      · simp only [memWfFrom, Bool.and_eq_true, decide_eq_true_eq]
        exact ⟨⟨⟨hlo, ha⟩, by assumption⟩, ⟨⟨by omega, h'.1.1.2⟩, h'.1.2⟩, h'.2⟩
    · split
      · split
        · exact memWfFrom_mono _ _ _ h'.2 (by omega)
        · subst_vars
          simp only [memWfFrom, Bool.and_eq_true, decide_eq_true_eq]
          exact ⟨⟨⟨hlo, ha⟩, by assumption⟩, h'.2⟩
      · simp only [memWfFrom, Bool.and_eq_true, decide_eq_true_eq]
        exact ⟨h'.1, ih (k + 1) h'.2 (by omega)⟩

theorem memSet_wf (m : Memory) (a : Nat) (b : Byte) (h : Memory.wf m) (ha : a < 2 ^ 32) :
    Memory.wf (memSet m a b) :=
  memSet_wfFrom m a b 0 h (Nat.zero_le a) ha

theorem memStore_wf (m : Memory) (a : Word) (bs : Bytes) (h : Memory.wf m) : Memory.wf (memStore m a bs) := by
  induction bs generalizing m a with
  | nil => exact h
  | cons b rest ih => exact ih _ _ (memSet_wf m a.toNat b h a.isLt)

theorem resetWith_mem_wf (p : Params) : Memory.wf (State.resetWith p).mem := rfl

@[simp] theorem memRead_length (m : Memory) (a : Word) (n : Nat) : (memRead m a n).length = n := by
  induction n generalizing a with
  | zero => rfl
  | succ n ih => simp [memRead, ih]

theorem memRead_append (m : Memory) (a : Word) (n k : Nat) :
    memRead m a (n + k) = memRead m a n ++ memRead m (a + BitVec.ofNat 32 n) k := by
  induction n generalizing a with
  | zero => simp [memRead]
  | succ n ih =>
    have e : a + 1 + BitVec.ofNat 32 n = a + BitVec.ofNat 32 (n + 1) := by
      rw [BitVec.add_assoc]
      congr 1
      apply BitVec.eq_of_toNat_eq
      simp [BitVec.toNat_add, Nat.add_comm]
    rw [Nat.succ_add, memRead, memRead, ih, e, List.cons_append]

end Sys2Proof.Machine
end

