-- ==== Sys2Proof/Laws/Checksum.lean ====
section
/-! SUPPORT. Chunk lists: the bytes of a chunk table are the bytes of its pieces, and pieces concatenate. -/

namespace Sys2Proof.Machine

@[simp] theorem pieceBytes_append (m : Memory) (l r : List (Word × Nat)) :
    pieceBytes m (l ++ r) = pieceBytes m l ++ pieceBytes m r := by
  induction l with
  | nil => rfl
  | cons c rest ih => simp [pieceBytes, ih]

@[simp] theorem pieceBytes_length (m : Memory) (l : List (Word × Nat)) :
    (pieceBytes m l).length = (l.map (·.2)).sum := by
  induction l with
  | nil => rfl
  | cons c rest ih => simp [pieceBytes, ih]

theorem chunkBytes_eq_pieceBytes (m : Memory) (t : Word) (n : Nat) :
    chunkBytes m t n = pieceBytes m (chunkTable m t n) := by
  induction n generalizing t with
  | zero => rfl
  | succ n ih => simp [chunkBytes, chunkTable, pieceBytes, ih]

end Sys2Proof.Machine
end

