-- ==== Sys2Proof/Laws/Tables.lean ====
section
/-! SUPPORT. The tables: what an update of one record leaves of the others. -/

namespace Sys2Proof.Machine

variable (s : State)

theorem sock_setSock_same (i : Nat) (k : Sock) (h : i < s.socks.length) : (setSock s i k).sock i = k := by
  simp [State.sock, h]

theorem sock_setSock_other (i j : Nat) (k : Sock) (h : j ≠ i) : (setSock s i k).sock j = s.sock j := by
  simp [State.sock, h.symm]

theorem sock_updSock_same (i : Nat) (g : Sock → Sock) (h : i < s.socks.length) :
    (updSock s i g).sock i = g (s.sock i) :=
  sock_setSock_same s i _ h

theorem sock_updSock_other (i j : Nat) (g : Sock → Sock) (h : j ≠ i) : (updSock s i g).sock j = s.sock j :=
  sock_setSock_other s i j _ h

theorem sock_congr (t : State) (h : t.socks = s.socks) (i : Nat) : t.sock i = s.sock i := by
  simp [State.sock, h]

theorem iface_setIface_same (i : Nat) (f : Iface) (h : i < s.ifs.length) : (setIface s i f).iface i = f := by
  simp [State.iface, h]

theorem iface_setIface_other (i j : Nat) (f : Iface) (h : j ≠ i) : (setIface s i f).iface j = s.iface j := by
  simp [State.iface, h.symm]

theorem iface_congr (t : State) (h : t.ifs = s.ifs) (hp : t.par = s.par) (i : Nat) : t.iface i = s.iface i := by
  simp [State.iface, h, hp]

theorem slot_setSlot_same (i j : Nat) (f : Slot) (hi : i < s.ifs.length) (hj : j < (s.iface i).frag.length) :
    (setSlot s i j f).slot i j = f := by
  unfold setSlot State.slot
  rw [iface_setIface_same s i _ hi]
  simp [hj]

theorem slot_setSlot_other (i j j' : Nat) (f : Slot) (h : j' ≠ j) :
    (setSlot s i j f).slot i j' = s.slot i j' := by
  unfold setSlot State.slot
  by_cases hi : i < s.ifs.length
  · rw [iface_setIface_same s i _ hi]
    simp [h.symm]
  · simp [State.iface, hi]

theorem slot_setSlot_other_iface (i i' j j' : Nat) (f : Slot) (h : i' ≠ i) :
    (setSlot s i j f).slot i' j' = s.slot i' j' := by
  unfold setSlot State.slot
  rw [iface_setIface_other s i i' _ h]

@[simp] theorem setSock_length (i : Nat) (k : Sock) : (setSock s i k).socks.length = s.socks.length := by simp

@[simp] theorem setIface_length (i : Nat) (f : Iface) : (setIface s i f).ifs.length = s.ifs.length := by simp

/-- An unused record is free, and every record below it is in use. -/
theorem freeSock_eq_some (n : Nat) (h : freeSock s = some n) :
    n < s.socks.length ∧ (s.sock n).type = .unused ∧ ∀ m, m < n → (s.sock m).type ≠ .unused := by
  obtain ⟨hn, h1, h2⟩ := List.findIdx?_eq_some_iff_getElem.mp h
  refine ⟨hn, by simpa [State.sock, hn] using h1, fun m hm => ?_⟩
  have := h2 m hm
  have hm' : m < s.socks.length := Nat.lt_trans hm hn
  simpa [State.sock, hm'] using this

end Sys2Proof.Machine
end

