-- ==== Sys2Proof/Laws/Frame.lean ====
section
/-! SUPPORT. What every shared operation leaves alone: the operand registers, the command latch, the lock, the
tick counter, the parameters, buffer memory, the port and the sizes of the two tables. -/

namespace Sys2Proof.Machine

/-- `t` differs from `s` at most in the results, the records, the queues, the counters and the inputs
consumed. -/
structure Kept (s t : State) : Prop where
  a : t.a = s.a
  cmd : t.cmd = s.cmd
  tid : t.tid = s.tid
  lock : t.lock = s.lock
  now : t.now = s.now
  par : t.par = s.par
  mem : t.mem = s.mem
  port : t.port = s.port
  ifsLen : t.ifs.length = s.ifs.length
  socksLen : t.socks.length = s.socks.length

theorem Kept.refl (s : State) : Kept s s := by constructor <;> rfl

theorem Kept.trans {s t u : State} (h : Kept s t) (g : Kept t u) : Kept s u := by
  constructor
  · exact g.a.trans h.a
  · exact g.cmd.trans h.cmd
  · exact g.tid.trans h.tid
  · exact g.lock.trans h.lock
  · exact g.now.trans h.now
  · exact g.par.trans h.par
  · exact g.mem.trans h.mem
  · exact g.port.trans h.port
  · exact g.ifsLen.trans h.ifsLen
  · exact g.socksLen.trans h.socksLen

/-! The primitive updates, each after any operation that keeps. -/

section primitives
variable {s t : State} (h : Kept s t)
include h

theorem Kept.setR0 (v : Word) : Kept s (setR0 t v) := h.trans (by constructor <;> rfl)
theorem Kept.count (c : Cause) : Kept s (count t c) := h.trans (by constructor <;> rfl)
theorem Kept.done (c : Cause) : Kept s (done t c) := h.trans (by constructor <;> rfl)
theorem Kept.drop (c : Cause) : Kept s (drop t c) := h.trans (by constructor <;> rfl)
theorem Kept.raiseIcmp (i y c : Byte) (p : Word) (b : Bytes) : Kept s (raiseIcmp t i y c p b) :=
  h.trans (by constructor <;> rfl)
theorem Kept.signal (i : Nat) (e : EventKind) : Kept s (signal t i e) := h.trans (by constructor <;> rfl)
theorem Kept.pushUp (e : UpEntry) : Kept s (pushUp t e) := h.trans (by constructor <;> rfl)
theorem Kept.setIface (i : Nat) (f : Iface) : Kept s (setIface t i f) :=
  h.trans (by constructor <;> simp)
theorem Kept.setSock (i : Nat) (k : Sock) : Kept s (setSock t i k) := h.trans (by constructor <;> simp)
theorem Kept.updSock (i : Nat) (g : Sock → Sock) : Kept s (updSock t i g) :=
  h.trans (by constructor <;> simp)
theorem Kept.recycle (i : Nat) : Kept s (recycle t i) := h.trans (by constructor <;> simp)
theorem Kept.setSlot (i j : Nat) (f : Slot) : Kept s (setSlot t i j f) := h.trans (by constructor <;> simp)
theorem Kept.releaseSlot (i j : Nat) : Kept s (releaseSlot t i j) := h.trans (by constructor <;> simp)
theorem Kept.advanceId (i : Nat) : Kept s (advanceId t i) := h.trans (by constructor <;> simp)
theorem Kept.emitState (e : TxEntry) : Kept s (emitState t e) := h.trans (by constructor <;> simp)
theorem Kept.rtoAsked : Kept s (rtoAsked t) := h.trans (by constructor <;> simp)
theorem Kept.deferAsked : Kept s (deferAsked t) := h.trans (by constructor <;> simp)

end primitives

/-! The send path. -/

theorem fragmentLoop_kept (g : Datagram) (m : Nat) (s : State) (fuel : Nat) :
    ∀ (off : Nat) (pay : Bytes) (t : State), Kept s t → Kept s (fragmentLoop g m fuel off pay t) := by
  induction fuel with
  | zero => exact fun _ _ _ h => h.done _
  | succ fuel ih =>
    intro off pay t h
    cases pay with
    | nil => exact h.done _
    | cons b rest =>
      unfold fragmentLoop
      split
      · exact ih _ _ _ ((h.emitState _).setR0 _)
      · exact (h.emitState _).drop _

theorem Kept.sendFragments {s t : State} (h : Kept s t) (g : Datagram) (pay : Bytes) :
    Kept s (sendFragments g pay t) := by
  unfold Machine.sendFragments
  dsimp only
  split
  · exact (h.setR0 0).drop _
  · exact fragmentLoop_kept _ _ _ _ _ _ _ (h.setR0 0)

theorem Kept.sendIp {s t : State} (h : Kept s t) (ifx : Byte) (src dst : Word) (proto ttl tos : Byte)
    (pay : Bytes) : Kept s (sendIp ifx src dst proto ttl tos pay t) := by
  unfold Machine.sendIp
  dsimp only
  split
  · exact (h.setR0 0).drop _
  · split
    · exact (h.setR0 0).drop _
    · split
      · split
        · exact (((h.advanceId _).emitState _).setR0 1).done _
        · exact (((h.advanceId _).emitState _).setR0 0).drop _
      · exact (h.advanceId _).sendFragments _ _

theorem Kept.sendSegment {s t : State} (h : Kept s t) (i : Nat) (f : BitVec 6) (q : Word) :
    Kept s (sendSegment i f q t) :=
  h.sendIp ..

theorem Kept.sendAck {s t : State} (h : Kept s t) (i : Nat) : Kept s (sendAck i t) := h.sendSegment ..

theorem Kept.sendReset {s t : State} (h : Kept s t) (ifx : Byte) (src dst : Word) (seg : Segment) :
    Kept s (sendReset ifx src dst seg t) :=
  h.sendIp ..

/-! The shared steps of the state machine. -/

theorem Kept.enterClosed {s t : State} (h : Kept s t) (i : Nat) (r : Bool) : Kept s (enterClosed i r t) := by
  unfold Machine.enterClosed
  split
  · exact h.updSock _ _
  · exact h.recycle _

theorem Kept.enterTimeWait {s t : State} (h : Kept s t) (i : Nat) : Kept s (enterTimeWait i t) := h.updSock ..

/-- A step that may end the operation keeps, whichever way it goes. -/
def FlowKept (s : State) (f : Flow) : Prop := Kept s f.state

theorem FlowKept.andThen {s : State} {f : Flow} {k : State → Flow} (h : FlowKept s f)
    (hk : ∀ t, Kept s t → FlowKept s (k t)) : FlowKept s (f.andThen k) := by
  cases f with
  | go t => exact hk t h
  | ended t => exact h

section steps
variable {s t : State} (h : Kept s t) (i : Nat) (ifx : Byte) (src dst : Word) (seg : Segment)
include h

theorem seqCheck_kept : FlowKept s (seqCheck i seg t) := by
  unfold seqCheck
  split
  · exact h
  · refine Kept.drop ?_ _
    split
    · exact h
    · exact h.sendAck i

theorem rstCheck_kept : FlowKept s (rstCheck i seg t) := by
  unfold rstCheck
  split
  · exact (h.enterClosed i true).done _
  · exact h

theorem synCheck_kept : FlowKept s (synCheck i ifx src dst seg t) := by
  unfold synCheck
  split
  · refine Kept.drop ?_ _
    split
    · exact (h.sendReset ifx src dst seg).enterClosed i true
    · exact h.sendReset ifx src dst seg
  · exact h

theorem ackProc_kept : FlowKept s (ackProc i seg t) := by
  unfold ackProc
  split
  · split
    · exact (h.sendAck i).drop _
    · split
      · exact h.updSock _ _
      · exact h
  · exact h.drop _

theorem std3_kept : FlowKept s (std3 i ifx src dst seg t) :=
  ((seqCheck_kept h i seg).andThen fun _ g => rstCheck_kept g i seg).andThen
    fun _ g => synCheck_kept g i ifx src dst seg

theorem std4_kept : FlowKept s (std4 i ifx src dst seg t) :=
  (std3_kept h i ifx src dst seg).andThen fun _ g => ackProc_kept g i seg

theorem Kept.deliver : Kept s (deliver i seg t) := by
  unfold Machine.deliver
  split
  · exact h
  · dsimp only
    split
    · exact h.setSock _ _
    · exact (h.setSock _ _).signal _ _

theorem Kept.finHandle (post : TcpState) : Kept s (finHandle i seg post t) := by
  unfold Machine.finHandle
  split
  · have g := ((h.updSock i fun k => { k with rcvNxt := k.rcvNxt + 1 }).sendAck i).updSock i
      fun k => { k with ackPending := false }
    dsimp only
    split
    · exact g.enterTimeWait i
    · exact g.updSock _ _
  · exact h

omit seg ifx src dst in
theorem Kept.ackFlush : Kept s (ackFlush i t) := by
  unfold Machine.ackFlush
  split
  · split
    · exact h.deferAsked
    · exact (h.deferAsked.sendAck i).updSock _ _
  · exact h

/-! The state operations. -/

theorem Kept.tcpClosed : Kept s (tcpClosed ifx src dst seg t) := by
  unfold Machine.tcpClosed
  split
  · exact h.drop _
  · exact (h.sendReset ..).drop _

theorem Kept.tcpListen : Kept s (tcpListen i ifx src dst seg t) := by
  unfold Machine.tcpListen
  dsimp only
  split
  · exact h.drop _
  · split
    · exact (h.sendReset ..).drop _
    · split
      · exact h.drop _
      · split
        · exact h.drop _
        · refine Kept.done (Kept.signal ?_ _ _) _
          split
          · exact (h.updSock _ _).count _
          · exact h.updSock _ _

theorem Kept.tcpSynSent : Kept s (tcpSynSent i ifx src dst seg t) := by
  unfold Machine.tcpSynSent
  dsimp only
  split
  · refine Kept.drop ?_ _
    split
    · exact h
    · exact h.sendReset ..
  · split
    · split
      · exact (h.enterClosed i true).done _
      · exact h.drop _
    · split
      · exact h.drop _
      · split
        · exact (((h.rtoAsked.updSock _ _).updSock _ _).sendAck i).done _
        · exact (((h.rtoAsked.updSock _ _).updSock _ _).sendSegment i _ _).done _

theorem Kept.tcpEstablished : Kept s (tcpEstablished i ifx src dst seg t) :=
  (std4_kept h i ifx src dst seg).andThen fun _ g =>
    (((g.deliver i seg).finHandle i seg _).ackFlush i).done _

theorem Kept.tcpSynRcvd : Kept s (tcpSynRcvd i ifx src dst seg t) := by
  refine FlowKept.andThen (std3_kept h i ifx src dst seg) fun u g => ?_
  split
  · exact g.drop _
  · split
    · exact (g.sendReset ..).drop _
    · exact (g.updSock _ _).tcpEstablished i ifx src dst seg

theorem Kept.tcpCloseWait : Kept s (tcpCloseWait i ifx src dst seg t) :=
  (std4_kept h i ifx src dst seg).andThen fun _ g => ((g.deliver i seg).ackFlush i).done _

theorem Kept.tcpLastAck : Kept s (tcpLastAck i ifx src dst seg t) := by
  refine FlowKept.andThen (std3_kept h i ifx src dst seg) fun u g => ?_
  split
  · exact (g.enterClosed i false).done _
  · exact g.drop _

theorem Kept.tcpFinWait1 : Kept s (tcpFinWait1 i ifx src dst seg t) := by
  refine FlowKept.andThen (std4_kept h i ifx src dst seg) fun u g => ?_
  have f : Kept s (finAcked i seg u) := by
    unfold finAcked
    split
    · exact g.updSock _ _
    · exact g
  exact (((f.deliver i seg).finHandle i seg _).ackFlush i).done _

theorem Kept.tcpFinWait2 : Kept s (tcpFinWait2 i ifx src dst seg t) :=
  (std4_kept h i ifx src dst seg).andThen fun _ g =>
    (((g.deliver i seg).finHandle i seg _).ackFlush i).done _

theorem Kept.tcpClosing : Kept s (tcpClosing i ifx src dst seg t) := by
  refine FlowKept.andThen (std4_kept h i ifx src dst seg) fun u g => ?_
  split
  · exact (g.enterTimeWait i).done _
  · exact g.drop _

omit ifx src dst in
theorem Kept.tcpTimeWait : Kept s (tcpTimeWait i seg t) := by
  unfold Machine.tcpTimeWait
  split
  · exact (h.enterClosed i true).done _
  · split
    · exact ((h.sendAck i).updSock _ _).done _
    · exact h.drop _

theorem Kept.tcpDispatch : Kept s (tcpDispatch i ifx src dst seg t) := by
  unfold Machine.tcpDispatch
  split
  · exact h.tcpClosed ..
  · exact h.tcpListen ..
  · exact h.tcpSynSent ..
  · exact h.tcpSynRcvd ..
  · exact h.tcpEstablished ..
  · exact h.tcpCloseWait ..
  · exact h.tcpLastAck ..
  · exact h.tcpFinWait1 ..
  · exact h.tcpFinWait2 ..
  · exact h.tcpClosing ..
  · exact h.tcpTimeWait ..

end steps

/-! Receiving. -/

theorem Kept.lookupEnd {s t : State} (h : Kept s t) (o : Option Nat) : Kept s (lookupEnd t o) := by
  unfold Machine.lookupEnd
  split
  · exact (h.setR0 _).done _
  · exact (h.setR0 _).drop _

theorem Kept.receiveTcp {s t : State} (h : Kept s t) (ifx : Byte) (src dst : Word) (seg : Bytes) :
    Kept s (receiveTcp ifx src dst seg t) := by
  unfold Machine.receiveTcp
  dsimp only
  have h0 := h.setR0 0xFFFFFFFF#32
  split
  · exact h0.drop _
  · split
    · exact h0.drop _
    · split
      · exact h0.drop _
      · split
        · exact h0.lookupEnd _
        · exact ((h0.lookupEnd _).tcpDispatch ..).setR0 _

theorem Kept.demux {s t : State} (h : Kept s t) (ifx : Byte) (d : Bytes) : Kept s (demux ifx d t) := by
  unfold Machine.demux
  split
  · unfold demuxTcp
    dsimp only
    split
    · exact (h.receiveTcp ..).raiseIcmp ..
    · exact h.receiveTcp ..
  · unfold handUp
    repeat' split
    all_goals first
      | exact (h.pushUp _).done _
      | exact (h.raiseIcmp ..).drop _

theorem Kept.reassemble {s t : State} (h : Kept s t) (ifx : Byte) (d : Bytes) :
    Kept s (reassemble ifx d t) := by
  unfold Machine.reassemble
  split
  · exact h.drop _
  · split
    · exact h.drop _
    · dsimp only
      split
      · exact (h.releaseSlot ..).drop _
      · split
        · exact (h.setSlot ..).done _
        · exact ((h.setSlot ..).demux ..).releaseSlot ..

theorem Kept.admitPacket {s t : State} (h : Kept s t) (ifx : Byte) (p : Bytes) : Kept s (admitPacket ifx p t) := by
  have whole : ∀ d, Kept s (admitWhole ifx d t) := by
    intro d
    unfold admitWhole
    split
    · exact h.drop _
    · split
      · exact h.reassemble ..
      · exact h.demux ..
  have trimmed : ∀ d, Kept s (admitTrimmed ifx d t) := by
    intro d
    unfold admitTrimmed
    dsimp only
    split
    · exact h.drop _
    · split
      · exact whole d
      · exact h.drop _
      · exact (h.pushUp _).done _
      · exact h.drop _
  unfold Machine.admitPacket
  repeat' split
  all_goals first
    | exact h.drop _
    | exact trimmed _

/-! The sweeps. -/

theorem Kept.evict {s t : State} (h : Kept s t) (i j : Nat) : Kept s (evict i j t) := by
  unfold Machine.evict
  dsimp only
  refine Kept.releaseSlot (Kept.count ?_ _) _ _
  split
  · exact h.raiseIcmp ..
  · exact h

theorem sweepSlots_kept (s : State) (i n : Nat) :
    ∀ (j : Nat) (t : State), Kept s t → Kept s (sweepSlots i n j t) := by
  induction n with
  | zero => exact fun _ _ h => h
  | succ n ih =>
    intro j t h
    refine ih _ _ ?_
    split
    · exact (h.evict i j).setR0 _
    · exact h

theorem Kept.fragTick {s t : State} (h : Kept s t) (i : Nat) : Kept s (fragTick i t) :=
  (sweepSlots_kept s i _ _ _ (h.setR0 0)).done _

theorem fragTicks_kept (s : State) (n : Nat) :
    ∀ (i : Nat) (t : State), Kept s t → Kept s (fragTicks n i t) := by
  induction n with
  | zero => exact fun _ _ h => h
  | succ n ih => exact fun i t h => ih _ _ (h.fragTick i)

theorem Kept.tickSock {s t : State} (h : Kept s t) (i : Nat) : Kept s (tickSock i t) := by
  unfold Machine.tickSock
  dsimp only
  split
  · exact h.enterClosed i false
  · split
    · exact (h.sendAck i).updSock _ _
    · exact h

theorem tickSocks_kept (s : State) (n : Nat) :
    ∀ (i c : Nat) (t : State), Kept s t → Kept s (tickSocks n i c t).1 := by
  induction n with
  | zero => exact fun _ _ _ h => h
  | succ n ih => exact fun i c t h => ih _ _ _ (h.tickSock i)

theorem Kept.tcpTick {s t : State} (h : Kept s t) : Kept s (tcpTick t) :=
  ((tickSocks_kept s _ _ _ _ h).setR0 _).done _

/-! The socket operations. -/

section sockets
variable {s t : State} (h : Kept s t) (i : Nat)
include h

omit i in
theorem Kept.sockOpen (k : SockType) : Kept s (sockOpen k t) := by
  unfold Machine.sockOpen
  split
  · exact (h.setR0 _).drop _
  · exact ((h.setSock _ _).setR0 _).done _

theorem Kept.sockBind (p : Half) : Kept s (sockBind i p t) := by
  unfold Machine.sockBind
  dsimp only
  split
  · exact h.drop _
  · exact (h.setSock _ _).done _

theorem Kept.sockListen (b : Half) : Kept s (sockListen i b t) := by
  unfold Machine.sockListen
  dsimp only
  split
  · exact h.drop _
  · exact (h.setSock _ _).done _

theorem Kept.sockConnect (p : Half) : Kept s (sockConnect i p t) := by
  unfold Machine.sockConnect
  dsimp only
  split
  · exact h.drop _
  · split
    · exact h.drop _
    · exact (((h.setSock _ _).sendSegment ..).setR0 0).done _

theorem Kept.sockAccept : Kept s (sockAccept i t) := by
  unfold Machine.sockAccept
  dsimp only
  split
  · exact h.drop _
  · split
    · exact (h.setR0 _).done _
    · split
      · exact (h.setR0 _).drop _
      · exact ((((h.rtoAsked.setSock _ _).setSock _ _).sendSegment ..).setR0 _).done _

theorem Kept.sendFin (st : TcpState) : Kept s (sendFin i st t) := by
  unfold Machine.sendFin
  exact ((h.updSock _ _).sendSegment ..).updSock _ _

theorem Kept.sockShut : Kept s (sockShut i t) := by
  unfold Machine.sockShut
  dsimp only
  have f : ∀ st, Kept s (Machine.done (Machine.setR0 (Machine.updSock (Machine.sendFin i st t) i fun k =>
      { k with ackPending := false }) 0) .ok) :=
    fun st => (((h.sendFin i st).updSock _ _).setR0 0).done _
  repeat' split
  all_goals first
    | exact h.drop _
    | exact f _

theorem Kept.sockClose : Kept s (sockClose i t) := by
  unfold Machine.sockClose
  dsimp only
  split
  · exact h.drop _
  · refine Kept.done (Kept.setR0 ?_ _) _
    have g := h.setSock i { t.sock i with owned := false }
    unfold letGo
    dsimp only
    repeat' split
    all_goals first
      | exact g.recycle i
      | exact g.sendFin i _
      | exact g

end sockets

/-- The checks before a command: either it is refused, with `R0`, `ST` and one counter written, or it runs. -/
theorem runCommand_cases (s : State) (l : Bool) (rs : List (Fin 8)) (g : Bool) (b : State → State) :
    (l = true ∧ s.lock ≠ .held s.tid ∧ runCommand s l rs g b = drop (setR0 s 0) .lockNotHeld) ∨
    (runCommand s l rs g b = drop (setR0 s 0) .badOperand) ∨
    ((l = true → s.lock = .held s.tid) ∧ rs.all s.written = true ∧ g = true ∧
      runCommand s l rs g b = b (setR0 s 0)) := by
  unfold runCommand
  split
  · rename_i h; exact .inl ⟨h.1, h.2, rfl⟩
  · rename_i h
    split
    · exact .inr (.inl rfl)
    · split
      · exact .inr (.inl rfl)
      · refine .inr (.inr ⟨fun hl => ?_, by simp_all, by simp_all, rfl⟩)
        by_contra hc
        exact h ⟨hl, hc⟩

/-- A command that passes its checks runs. -/
theorem runCommand_runs (s : State) (l : Bool) (rs : List (Fin 8)) (g : Bool) (b : State → State)
    (hl : l = true → s.lock = .held s.tid) (hr : rs.all s.written = true) (hg : g = true) :
    runCommand s l rs g b = b (setR0 s 0) := by
  unfold runCommand
  rw [if_neg (fun h => h.2 (hl h.1)), if_neg (by simp [hr]), if_neg (by simp [hg])]

end Sys2Proof.Machine
end

