-- ==== Sys2Proof/Laws/PerInstr.lean ====
section
/-! SUPPORT. The family `SelectorMatches`: what the encoder writes for an instruction fits the pattern of its row of
the opcode table (30_encoding.md R110, R112 to R114). -/

namespace Sys2Proof.Laws.SelectorMatches

/-- The pattern of a row: the `match` under mask `0xFF000000` of a command, or the selector value of an internal
operation, or no selector. -/
inductive Pattern where
  | command (word : Word)
  | fragsel (whole : Bool)
  | proto (number : Byte)
  | state (code : BitVec 4)
  | bare

/-- The row of an instruction. -/
def row : Instr → Pattern
  | .nop => .command 0x00000000
  | .csum => .command 0x01000000
  | .csumx _ => .command 0x02000000
  | .csumul _ _ => .command 0x03000000
  | .iprx _ => .command 0x10000000
  | .iptx _ _ => .command 0x12000000
  | .fragtick _ => .command 0x21000000
  | .lookupt _ => .command 0x30000000
  | .lookupu _ => .command 0x31000000
  | .tcptick => .command 0x41000000
  | .lock => .command 0x50000000
  | .unlock => .command 0x51000000
  | .tick => .command 0x52000000
  | .crrd _ _ => .command 0x53000000
  | .crwr _ _ => .command 0x54000000
  | .skrd _ _ => .command 0x55000000
  | .seta _ _ => .command 0x56000000
  | .geta _ => .command 0x57000000
  | .drain _ => .command 0x58000000
  | .sopen _ => .command 0x60000000
  | .sbind _ _ => .command 0x61000000
  | .slisten _ _ => .command 0x62000000
  | .sconnect _ _ => .command 0x63000000
  | .saccept _ => .command 0x64000000
  | .sshut _ => .command 0x65000000
  | .sclose _ => .command 0x66000000
  | .srecv _ _ => .command 0x67000000
  | .pshdr _ _ _ _ => .bare
  | .ipdemux _ _ => .fragsel true
  | .reasm _ _ => .fragsel false
  | .ipfrag _ _ _ _ _ _ _ _ => .bare
  | .tcprx _ _ _ _ => .proto 6
  | .tcpsClosed _ _ _ _ _ => .state 0x0
  | .tcpsListen _ _ _ _ _ => .state 0x1
  | .tcpsSynSent _ _ _ _ _ => .state 0x2
  | .tcpsSynRcvd _ _ _ _ _ => .state 0x3
  | .tcpsEstablished _ _ _ _ _ => .state 0x4
  | .tcpsCloseWait _ _ _ _ _ => .state 0x5
  | .tcpsLastAck _ _ _ _ _ => .state 0x6
  | .tcpsFinWait1 _ _ _ _ _ => .state 0x7
  | .tcpsFinWait2 _ _ _ _ _ => .state 0x8
  | .tcpsClosing _ _ _ _ _ => .state 0x9
  | .tcpsTimeWait _ _ _ _ _ => .state 0xA

/-- An entry fits a pattern. -/
def fits : Pattern → Entry → Prop
  | .command m, .command cmd _ => cmd &&& 0xFF000000#32 = m
  | .fragsel true, .fragsel fo _ _ => fo &&& 0x3FFF#16 = 0
  | .fragsel false, .fragsel fo _ _ => fo &&& 0x3FFF#16 ≠ 0
  | .proto n, .proto number _ _ _ _ => number = n
  | .state c, .state code _ _ _ _ _ => code = c
  | .bare, .pshdr _ _ _ _ => True
  | .bare, .ipfrag _ _ _ _ _ _ _ _ => True
  | _, _ => False

/-- The encoding of a well-formed instruction fits its row. -/
def Statement (i : Instr) : Prop := i.wf = true → fits (row i) (encode i)

/-- A command word under the mask of `op`. -/
theorem op_of_word (op x : Byte) (y : Half) :
    commandWord op x y &&& 0xFF000000#32 = op.setWidth 32 <<< 24 := by
  ext k hk
  simp only [commandWord, BitVec.getElem_and, BitVec.getElem_append, BitVec.getElem_shiftLeft,
    BitVec.getElem_setWidth]
  have : (0xFF000000#32)[k] = decide (24 ≤ k) := by
    revert k; decide
  rw [this]
  by_cases h : 24 ≤ k
  · have h1 : ¬ k < 16 := by omega
    have h2 : ¬ k - 16 < 8 := by omega
    have h3 : ¬ k < 24 := by omega
    simp only [h, h1, h2, h3, decide_true, Bool.and_true, dite_false]
    simp [Nat.sub_sub, BitVec.getLsbD_eq_getElem (show k - 24 < 8 by omega)]
  · simp [h, show k < 24 by omega]

theorem nop : Statement .nop :=
  fun _ => op_of_word _ _ _

theorem csum : Statement (.csum) :=
  fun _ => op_of_word _ _ _

theorem csumx (count : Byte) : Statement (.csumx count) :=
  fun _ => op_of_word _ _ _

theorem csumul (proto : Byte) (len : Half) : Statement (.csumul proto len) :=
  fun _ => op_of_word _ _ _

theorem iprx (ifx : Byte) : Statement (.iprx ifx) :=
  fun _ => op_of_word _ _ _

theorem iptx (ifx : Byte) (proto : Byte) : Statement (.iptx ifx proto) :=
  fun _ => op_of_word _ _ _

theorem fragtick (ifx : Byte) : Statement (.fragtick ifx) :=
  fun _ => op_of_word _ _ _

theorem lookupt (ifx : Byte) : Statement (.lookupt ifx) :=
  fun _ => op_of_word _ _ _

theorem lookupu (ifx : Byte) : Statement (.lookupu ifx) :=
  fun _ => op_of_word _ _ _

theorem tcptick : Statement (.tcptick) :=
  fun _ => op_of_word _ _ _

theorem lock : Statement (.lock) :=
  fun _ => op_of_word _ _ _

theorem unlock : Statement (.unlock) :=
  fun _ => op_of_word _ _ _

theorem tick : Statement (.tick) :=
  fun _ => op_of_word _ _ _

theorem crrd (ifx : Byte) (reg : Half) : Statement (.crrd ifx reg) :=
  fun _ => op_of_word _ _ _

theorem crwr (ifx : Byte) (reg : Half) : Statement (.crwr ifx reg) :=
  fun _ => op_of_word _ _ _

theorem skrd (sock : Byte) (field : Half) : Statement (.skrd sock field) :=
  fun _ => op_of_word _ _ _

theorem seta (idx : Byte) (wdata : Word) : Statement (.seta idx wdata) :=
  fun _ => op_of_word _ _ _

theorem geta (idx : Byte) : Statement (.geta idx) :=
  fun _ => op_of_word _ _ _

theorem drain (queue : Byte) : Statement (.drain queue) :=
  fun _ => op_of_word _ _ _

theorem sopen (kind : Half) : Statement (.sopen kind) :=
  fun _ => op_of_word _ _ _

theorem sbind (sock : Byte) (port : Half) : Statement (.sbind sock port) :=
  fun _ => op_of_word _ _ _

theorem slisten (sock : Byte) (bound : Half) : Statement (.slisten sock bound) :=
  fun _ => op_of_word _ _ _

theorem sconnect (sock : Byte) (port : Half) : Statement (.sconnect sock port) :=
  fun _ => op_of_word _ _ _

theorem saccept (sock : Byte) : Statement (.saccept sock) :=
  fun _ => op_of_word _ _ _

theorem sshut (sock : Byte) : Statement (.sshut sock) :=
  fun _ => op_of_word _ _ _

theorem sclose (sock : Byte) : Statement (.sclose sock) :=
  fun _ => op_of_word _ _ _

theorem srecv (sock : Byte) (most : Half) : Statement (.srecv sock most) :=
  fun _ => op_of_word _ _ _

theorem pshdr (src dst : Word) (proto : Byte) (len : Half) :
    Statement (.pshdr src dst proto len) :=
  fun _ => trivial

theorem ipdemux (ifx : Byte) (d : Bytes) : Statement (.ipdemux ifx d) :=
  fun h => by
    simp only [Instr.wf, Bool.and_eq_true, Bool.not_eq_true', Machine.isFragment, bne_eq_false_iff_eq] at h
    exact h.2

theorem reasm (ifx : Byte) (d : Bytes) : Statement (.reasm ifx d) :=
  fun h => by
    simp only [Instr.wf, Bool.and_eq_true, Machine.isFragment, bne_iff_ne] at h
    exact h.2

theorem ipfrag (ifx tos : Byte) (id : Half) (ttl proto : Byte) (src dst : Word) (pay : Bytes) :
    Statement (.ipfrag ifx tos id ttl proto src dst pay) :=
  fun _ => trivial

theorem tcprx (ifx : Byte) (src dst : Word) (seg : Bytes) :
    Statement (.tcprx ifx src dst seg) :=
  fun _ => rfl

theorem tcpsClosed (sock ifx : Byte) (src dst : Word) (seg : Segment) :
    Statement (.tcpsClosed sock ifx src dst seg) :=
  fun _ => rfl

theorem tcpsListen (sock ifx : Byte) (src dst : Word) (seg : Segment) :
    Statement (.tcpsListen sock ifx src dst seg) :=
  fun _ => rfl

theorem tcpsSynSent (sock ifx : Byte) (src dst : Word) (seg : Segment) :
    Statement (.tcpsSynSent sock ifx src dst seg) :=
  fun _ => rfl

theorem tcpsSynRcvd (sock ifx : Byte) (src dst : Word) (seg : Segment) :
    Statement (.tcpsSynRcvd sock ifx src dst seg) :=
  fun _ => rfl

theorem tcpsEstablished (sock ifx : Byte) (src dst : Word) (seg : Segment) :
    Statement (.tcpsEstablished sock ifx src dst seg) :=
  fun _ => rfl

theorem tcpsCloseWait (sock ifx : Byte) (src dst : Word) (seg : Segment) :
    Statement (.tcpsCloseWait sock ifx src dst seg) :=
  fun _ => rfl

theorem tcpsLastAck (sock ifx : Byte) (src dst : Word) (seg : Segment) :
    Statement (.tcpsLastAck sock ifx src dst seg) :=
  fun _ => rfl

theorem tcpsFinWait1 (sock ifx : Byte) (src dst : Word) (seg : Segment) :
    Statement (.tcpsFinWait1 sock ifx src dst seg) :=
  fun _ => rfl

theorem tcpsFinWait2 (sock ifx : Byte) (src dst : Word) (seg : Segment) :
    Statement (.tcpsFinWait2 sock ifx src dst seg) :=
  fun _ => rfl

theorem tcpsClosing (sock ifx : Byte) (src dst : Word) (seg : Segment) :
    Statement (.tcpsClosing sock ifx src dst seg) :=
  fun _ => rfl

theorem tcpsTimeWait (sock ifx : Byte) (src dst : Word) (seg : Segment) :
    Statement (.tcpsTimeWait sock ifx src dst seg) :=
  fun _ => rfl

end Sys2Proof.Laws.SelectorMatches
end

