-- ==== Sys2Proof/Laws/Send.lean ====
section
/-! SUPPORT. The send path: it writes the results, the identification counters, `TXQ`, the counters and the answers
it consumes, and nothing else. -/

namespace Sys2Proof.Machine

/-- What the send path leaves alone. -/
structure Unsent (s t : State) : Prop where
  a : t.a = s.a
  cmd : t.cmd = s.cmd
  tid : t.tid = s.tid
  lock : t.lock = s.lock
  now : t.now = s.now
  socks : t.socks = s.socks
  icmpq : t.icmpq = s.icmpq
  evq : t.evq = s.evq
  upq : t.upq = s.upq
  par : t.par = s.par
  mem : t.mem = s.mem
  port : t.port = s.port
  rtoIn : t.rtoIn = s.rtoIn
  deferIn : t.deferIn = s.deferIn
  out : t.out = s.out

theorem Unsent.refl (s : State) : Unsent s s := by constructor <;> rfl

theorem Unsent.trans {s t u : State} (h : Unsent s t) (g : Unsent t u) : Unsent s u := by
  constructor
  · exact g.a.trans h.a
  · exact g.cmd.trans h.cmd
  · exact g.tid.trans h.tid
  · exact g.lock.trans h.lock
  · exact g.now.trans h.now
  · exact g.socks.trans h.socks
  · exact g.icmpq.trans h.icmpq
  · exact g.evq.trans h.evq
  · exact g.upq.trans h.upq
  · exact g.par.trans h.par
  · exact g.mem.trans h.mem
  · exact g.port.trans h.port
  · exact g.rtoIn.trans h.rtoIn
  · exact g.deferIn.trans h.deferIn
  · exact g.out.trans h.out

section primitives
variable {s t : State} (h : Unsent s t)
include h

theorem Unsent.setR0 (v : Word) : Unsent s (setR0 t v) := h.trans (by constructor <;> rfl)
theorem Unsent.done (c : Cause) : Unsent s (done t c) := h.trans (by constructor <;> rfl)
theorem Unsent.drop (c : Cause) : Unsent s (drop t c) := h.trans (by constructor <;> rfl)
theorem Unsent.advanceId (i : Nat) : Unsent s (advanceId t i) := h.trans (by constructor <;> simp)
theorem Unsent.emitState (e : TxEntry) : Unsent s (emitState t e) := h.trans (by constructor <;> simp)

end primitives

theorem fragmentLoop_unsent (g : Datagram) (m : Nat) (s : State) (fuel : Nat) :
    ∀ (off : Nat) (pay : Bytes) (t : State), Unsent s t → Unsent s (fragmentLoop g m fuel off pay t) := by
  induction fuel with
  | zero => exact fun _ _ _ h => h.done _
  | succ fuel ih =>
    intro off pay t h
    cases pay with
    | nil => exact h.done _
    | cons b rest =>
      unfold fragmentLoop
      split
      · exact ih _ _ _ ((h.emitState _).setR0 _)
      · exact (h.emitState _).drop _

theorem sendFragments_unsent (g : Datagram) (pay : Bytes) (s : State) : Unsent s (sendFragments g pay s) := by
  unfold sendFragments
  dsimp only
  split
  · exact ((Unsent.refl s).setR0 0).drop _
  · exact fragmentLoop_unsent _ _ _ _ _ _ _ ((Unsent.refl s).setR0 0)

theorem sendIp_unsent (ifx : Byte) (src dst : Word) (proto ttl tos : Byte) (pay : Bytes) (s : State) :
    Unsent s (sendIp ifx src dst proto ttl tos pay s) := by
  have h := Unsent.refl s
  unfold sendIp
  dsimp only
  split
  · exact (h.setR0 0).drop _
  · split
    · exact (h.setR0 0).drop _
    · split
      · split
        · exact (((h.advanceId _).emitState _).setR0 1).done _
        · exact (((h.advanceId _).emitState _).setR0 0).drop _
      · exact (h.advanceId _).trans (sendFragments_unsent _ _ _)

variable (s : State)


/-! `sendIp` -/

@[simp] theorem sendIp_a (ifx : Byte) (src dst : Word) (proto ttl tos : Byte) (pay : Bytes) :
    (sendIp ifx src dst proto ttl tos pay s).a = s.a :=
  (sendIp_unsent ..).a
@[simp] theorem sendIp_cmd (ifx : Byte) (src dst : Word) (proto ttl tos : Byte) (pay : Bytes) :
    (sendIp ifx src dst proto ttl tos pay s).cmd = s.cmd :=
  (sendIp_unsent ..).cmd
@[simp] theorem sendIp_tid (ifx : Byte) (src dst : Word) (proto ttl tos : Byte) (pay : Bytes) :
    (sendIp ifx src dst proto ttl tos pay s).tid = s.tid :=
  (sendIp_unsent ..).tid
@[simp] theorem sendIp_lock (ifx : Byte) (src dst : Word) (proto ttl tos : Byte) (pay : Bytes) :
    (sendIp ifx src dst proto ttl tos pay s).lock = s.lock :=
  (sendIp_unsent ..).lock
@[simp] theorem sendIp_now (ifx : Byte) (src dst : Word) (proto ttl tos : Byte) (pay : Bytes) :
    (sendIp ifx src dst proto ttl tos pay s).now = s.now :=
  (sendIp_unsent ..).now
@[simp] theorem sendIp_socks (ifx : Byte) (src dst : Word) (proto ttl tos : Byte) (pay : Bytes) :
    (sendIp ifx src dst proto ttl tos pay s).socks = s.socks :=
  (sendIp_unsent ..).socks
@[simp] theorem sendIp_icmpq (ifx : Byte) (src dst : Word) (proto ttl tos : Byte) (pay : Bytes) :
    (sendIp ifx src dst proto ttl tos pay s).icmpq = s.icmpq :=
  (sendIp_unsent ..).icmpq
@[simp] theorem sendIp_evq (ifx : Byte) (src dst : Word) (proto ttl tos : Byte) (pay : Bytes) :
    (sendIp ifx src dst proto ttl tos pay s).evq = s.evq :=
  (sendIp_unsent ..).evq
@[simp] theorem sendIp_upq (ifx : Byte) (src dst : Word) (proto ttl tos : Byte) (pay : Bytes) :
    (sendIp ifx src dst proto ttl tos pay s).upq = s.upq :=
  (sendIp_unsent ..).upq
@[simp] theorem sendIp_par (ifx : Byte) (src dst : Word) (proto ttl tos : Byte) (pay : Bytes) :
    (sendIp ifx src dst proto ttl tos pay s).par = s.par :=
  (sendIp_unsent ..).par
@[simp] theorem sendIp_mem (ifx : Byte) (src dst : Word) (proto ttl tos : Byte) (pay : Bytes) :
    (sendIp ifx src dst proto ttl tos pay s).mem = s.mem :=
  (sendIp_unsent ..).mem
@[simp] theorem sendIp_port (ifx : Byte) (src dst : Word) (proto ttl tos : Byte) (pay : Bytes) :
    (sendIp ifx src dst proto ttl tos pay s).port = s.port :=
  (sendIp_unsent ..).port
@[simp] theorem sendIp_rtoIn (ifx : Byte) (src dst : Word) (proto ttl tos : Byte) (pay : Bytes) :
    (sendIp ifx src dst proto ttl tos pay s).rtoIn = s.rtoIn :=
  (sendIp_unsent ..).rtoIn
@[simp] theorem sendIp_deferIn (ifx : Byte) (src dst : Word) (proto ttl tos : Byte) (pay : Bytes) :
    (sendIp ifx src dst proto ttl tos pay s).deferIn = s.deferIn :=
  (sendIp_unsent ..).deferIn
@[simp] theorem sendIp_out (ifx : Byte) (src dst : Word) (proto ttl tos : Byte) (pay : Bytes) :
    (sendIp ifx src dst proto ttl tos pay s).out = s.out :=
  (sendIp_unsent ..).out
@[simp] theorem sendIp_sock (ifx : Byte) (src dst : Word) (proto ttl tos : Byte) (pay : Bytes) (n : Nat) :
    (sendIp ifx src dst proto ttl tos pay s).sock n = s.sock n :=
  sock_congr _ _ (sendIp_unsent ..).socks n

/-! `sendSegment` -/

@[simp] theorem sendSegment_a (i : Nat) (f : BitVec 6) (q : Word) :
    (sendSegment i f q s).a = s.a :=
  (sendIp_unsent ..).a
@[simp] theorem sendSegment_cmd (i : Nat) (f : BitVec 6) (q : Word) :
    (sendSegment i f q s).cmd = s.cmd :=
  (sendIp_unsent ..).cmd
@[simp] theorem sendSegment_tid (i : Nat) (f : BitVec 6) (q : Word) :
    (sendSegment i f q s).tid = s.tid :=
  (sendIp_unsent ..).tid
@[simp] theorem sendSegment_lock (i : Nat) (f : BitVec 6) (q : Word) :
    (sendSegment i f q s).lock = s.lock :=
  (sendIp_unsent ..).lock
@[simp] theorem sendSegment_now (i : Nat) (f : BitVec 6) (q : Word) :
    (sendSegment i f q s).now = s.now :=
  (sendIp_unsent ..).now
@[simp] theorem sendSegment_socks (i : Nat) (f : BitVec 6) (q : Word) :
    (sendSegment i f q s).socks = s.socks :=
  (sendIp_unsent ..).socks
@[simp] theorem sendSegment_icmpq (i : Nat) (f : BitVec 6) (q : Word) :
    (sendSegment i f q s).icmpq = s.icmpq :=
  (sendIp_unsent ..).icmpq
@[simp] theorem sendSegment_evq (i : Nat) (f : BitVec 6) (q : Word) :
    (sendSegment i f q s).evq = s.evq :=
  (sendIp_unsent ..).evq
@[simp] theorem sendSegment_upq (i : Nat) (f : BitVec 6) (q : Word) :
    (sendSegment i f q s).upq = s.upq :=
  (sendIp_unsent ..).upq
@[simp] theorem sendSegment_par (i : Nat) (f : BitVec 6) (q : Word) :
    (sendSegment i f q s).par = s.par :=
  (sendIp_unsent ..).par
@[simp] theorem sendSegment_mem (i : Nat) (f : BitVec 6) (q : Word) :
    (sendSegment i f q s).mem = s.mem :=
  (sendIp_unsent ..).mem
@[simp] theorem sendSegment_port (i : Nat) (f : BitVec 6) (q : Word) :
    (sendSegment i f q s).port = s.port :=
  (sendIp_unsent ..).port
@[simp] theorem sendSegment_rtoIn (i : Nat) (f : BitVec 6) (q : Word) :
    (sendSegment i f q s).rtoIn = s.rtoIn :=
  (sendIp_unsent ..).rtoIn
@[simp] theorem sendSegment_deferIn (i : Nat) (f : BitVec 6) (q : Word) :
    (sendSegment i f q s).deferIn = s.deferIn :=
  (sendIp_unsent ..).deferIn
@[simp] theorem sendSegment_out (i : Nat) (f : BitVec 6) (q : Word) :
    (sendSegment i f q s).out = s.out :=
  (sendIp_unsent ..).out
@[simp] theorem sendSegment_sock (i : Nat) (f : BitVec 6) (q : Word) (n : Nat) :
    (sendSegment i f q s).sock n = s.sock n :=
  sock_congr _ _ (sendIp_unsent ..).socks n

/-! `sendAck` -/

@[simp] theorem sendAck_a (i : Nat) :
    (sendAck i s).a = s.a :=
  (sendIp_unsent ..).a
@[simp] theorem sendAck_cmd (i : Nat) :
    (sendAck i s).cmd = s.cmd :=
  (sendIp_unsent ..).cmd
@[simp] theorem sendAck_tid (i : Nat) :
    (sendAck i s).tid = s.tid :=
  (sendIp_unsent ..).tid
@[simp] theorem sendAck_lock (i : Nat) :
    (sendAck i s).lock = s.lock :=
  (sendIp_unsent ..).lock
@[simp] theorem sendAck_now (i : Nat) :
    (sendAck i s).now = s.now :=
  (sendIp_unsent ..).now
@[simp] theorem sendAck_socks (i : Nat) :
    (sendAck i s).socks = s.socks :=
  (sendIp_unsent ..).socks
@[simp] theorem sendAck_icmpq (i : Nat) :
    (sendAck i s).icmpq = s.icmpq :=
  (sendIp_unsent ..).icmpq
@[simp] theorem sendAck_evq (i : Nat) :
    (sendAck i s).evq = s.evq :=
  (sendIp_unsent ..).evq
@[simp] theorem sendAck_upq (i : Nat) :
    (sendAck i s).upq = s.upq :=
  (sendIp_unsent ..).upq
@[simp] theorem sendAck_par (i : Nat) :
    (sendAck i s).par = s.par :=
  (sendIp_unsent ..).par
@[simp] theorem sendAck_mem (i : Nat) :
    (sendAck i s).mem = s.mem :=
  (sendIp_unsent ..).mem
@[simp] theorem sendAck_port (i : Nat) :
    (sendAck i s).port = s.port :=
  (sendIp_unsent ..).port
@[simp] theorem sendAck_rtoIn (i : Nat) :
    (sendAck i s).rtoIn = s.rtoIn :=
  (sendIp_unsent ..).rtoIn
@[simp] theorem sendAck_deferIn (i : Nat) :
    (sendAck i s).deferIn = s.deferIn :=
  (sendIp_unsent ..).deferIn
@[simp] theorem sendAck_out (i : Nat) :
    (sendAck i s).out = s.out :=
  (sendIp_unsent ..).out
@[simp] theorem sendAck_sock (i : Nat) (n : Nat) :
    (sendAck i s).sock n = s.sock n :=
  sock_congr _ _ (sendIp_unsent ..).socks n

/-! `sendReset` -/

@[simp] theorem sendReset_a (ifx : Byte) (src dst : Word) (seg : Segment) :
    (sendReset ifx src dst seg s).a = s.a :=
  (sendIp_unsent ..).a
@[simp] theorem sendReset_cmd (ifx : Byte) (src dst : Word) (seg : Segment) :
    (sendReset ifx src dst seg s).cmd = s.cmd :=
  (sendIp_unsent ..).cmd
@[simp] theorem sendReset_tid (ifx : Byte) (src dst : Word) (seg : Segment) :
    (sendReset ifx src dst seg s).tid = s.tid :=
  (sendIp_unsent ..).tid
@[simp] theorem sendReset_lock (ifx : Byte) (src dst : Word) (seg : Segment) :
    (sendReset ifx src dst seg s).lock = s.lock :=
  (sendIp_unsent ..).lock
@[simp] theorem sendReset_now (ifx : Byte) (src dst : Word) (seg : Segment) :
    (sendReset ifx src dst seg s).now = s.now :=
  (sendIp_unsent ..).now
@[simp] theorem sendReset_socks (ifx : Byte) (src dst : Word) (seg : Segment) :
    (sendReset ifx src dst seg s).socks = s.socks :=
  (sendIp_unsent ..).socks
@[simp] theorem sendReset_icmpq (ifx : Byte) (src dst : Word) (seg : Segment) :
    (sendReset ifx src dst seg s).icmpq = s.icmpq :=
  (sendIp_unsent ..).icmpq
@[simp] theorem sendReset_evq (ifx : Byte) (src dst : Word) (seg : Segment) :
    (sendReset ifx src dst seg s).evq = s.evq :=
  (sendIp_unsent ..).evq
@[simp] theorem sendReset_upq (ifx : Byte) (src dst : Word) (seg : Segment) :
    (sendReset ifx src dst seg s).upq = s.upq :=
  (sendIp_unsent ..).upq
@[simp] theorem sendReset_par (ifx : Byte) (src dst : Word) (seg : Segment) :
    (sendReset ifx src dst seg s).par = s.par :=
  (sendIp_unsent ..).par
@[simp] theorem sendReset_mem (ifx : Byte) (src dst : Word) (seg : Segment) :
    (sendReset ifx src dst seg s).mem = s.mem :=
  (sendIp_unsent ..).mem
@[simp] theorem sendReset_port (ifx : Byte) (src dst : Word) (seg : Segment) :
    (sendReset ifx src dst seg s).port = s.port :=
  (sendIp_unsent ..).port
@[simp] theorem sendReset_rtoIn (ifx : Byte) (src dst : Word) (seg : Segment) :
    (sendReset ifx src dst seg s).rtoIn = s.rtoIn :=
  (sendIp_unsent ..).rtoIn
@[simp] theorem sendReset_deferIn (ifx : Byte) (src dst : Word) (seg : Segment) :
    (sendReset ifx src dst seg s).deferIn = s.deferIn :=
  (sendIp_unsent ..).deferIn
@[simp] theorem sendReset_out (ifx : Byte) (src dst : Word) (seg : Segment) :
    (sendReset ifx src dst seg s).out = s.out :=
  (sendIp_unsent ..).out
@[simp] theorem sendReset_sock (ifx : Byte) (src dst : Word) (seg : Segment) (n : Nat) :
    (sendReset ifx src dst seg s).sock n = s.sock n :=
  sock_congr _ _ (sendIp_unsent ..).socks n

end Sys2Proof.Machine
end

