-- ==== Sys2Proof/Tests/Slice0.lean ====
section
/-! SUPPORT. Tests: the smoke of WellFormed, words of the encoding, single steps whose expected results are the
vectors of 95_test_vectors.md and 96_test_vectors_tcp_programs.md, and a witness for the hypotheses of every
obligation that has some. -/

namespace Sys2Proof.Tests

set_option Elab.async false

open Machine Claims

/-! Helpers. -/

/-- The `n` bytes of a number, first byte first. -/
def octets (n v : Nat) : Bytes := (List.range n).map fun i => BitVec.ofNat 8 (v / 256 ^ (n - 1 - i))

/-- What a next state shows; `none` where there is none. -/
def shown {α : Type} (o : Host.Outcome State Fault Refusal) (f : State → α) : Option α :=
  match o with
  | .next t => some (f t)
  | .fault _ | .refused _ => none

/-- 192.0.2.1, this host (95_test_vectors.md). -/
def hostH : Word := 0xC0000201

/-- 192.0.2.50, the peer. -/
def peerR : Word := 0xC0000232

/-- Setup S0 (95_test_vectors.md), the lock held by task 1, a link that accepts, hooks at their defaults. -/
def s0 : State :=
  { State.reset with
    lock := .held 1, tid := 1
    ifs := [{ Iface.reset Params.sample with mtu := 1500, addr := [⟨hostH, 24, .valid⟩] }]
    link := [true, true, true], rtoIn := [0], deferIn := [false] }

/-- Operand registers written from `A0` on. -/
def withRegs (l : List Word) (s : State) : State := { s with a := Vector.ofFn fun i => l[i.val]? }

/-- Bytes placed in buffer memory. -/
def withBytes (a : Word) (b : Bytes) (s : State) : State := { s with mem := memStore s.mem a b }

/-- The interface record changed. -/
def withIface (f : Iface → Iface) (s : State) : State := { s with ifs := s.ifs.map f }

/-- Record 1 placed. -/
def withK (k : Sock) (s : State) : State := { s with socks := s.socks.set 1 k }

/-- Record 0 placed. -/
def withL (k : Sock) (s : State) : State := { s with socks := s.socks.set 0 k }

/-- The record K1 (96_test_vectors_tcp_programs.md), in a given state. -/
def k1 (st : TcpState) : Sock :=
  { Sock.reset with
    type := .stream, owned := true, localAddr := .v4 hostH, remoteAddr := .v4 peerR, localPort := 80
    remotePort := 4000, iss := 5000, sndUna := 5001, sndNxt := 5001, irs := 9000, rcvNxt := 9001
    rcvWnd := 2048, sndWnd := 8192, maxSndWnd := 8192, mss := 1460, state := st }

/-- A listener on port 80. -/
def listener : Sock :=
  { Sock.reset with type := .stream, owned := true, localPort := 80, state := .listen, synqMax := 4 }

/-- The TCP parts of what was sent. -/
def sent (s : State) : List Bytes := s.txq.map fun e => e.pkt.drop 20

/-- A received segment. -/
def segmentOf (n v : Nat) : Segment := parseSegment (octets n v)

/-! WellFormed: an ill-formed term for each check. -/

/-- Well-formed terms. -/
theorem test_wf_good :
    (Instr.reasm 0 (octets 24 0x450000180042000240110000C0000232C0000201696A6B6C)).wf = true ∧ (Instr.ipdemux 0 (octets 20 0x450000140042000040010000C0000232C0000201)).wf = true ∧ (Instr.seta 9 0).wf = true := by decide +kernel

/-- 41_ip_admission.md R152: `ihl = 4`. -/
theorem test_wf_header_words :
    (Instr.ipdemux 0 (octets 20 0x440000140042000040010000C0000232C0000201)).wf = false := by decide +kernel

/-- 41_ip_admission.md R153: a header of 24 bytes in 20. -/
theorem test_wf_header_fits :
    (Instr.ipdemux 0 (octets 20 0x460000140042000040010000C0000232C0000201)).wf = false := by decide +kernel

/-- 41_ip_admission.md R165: the length is not the total length. -/
theorem test_wf_total_length :
    (Instr.ipdemux 0 (octets 20 0x450000150042000040010000C0000232C0000201)).wf = false := by decide +kernel

/-- 30_encoding.md R112. -/
theorem test_wf_whole_is_no_fragment :
    (Instr.reasm 0 (octets 20 0x450000140042000040010000C0000232C0000201)).wf = false ∧ (Instr.ipdemux 0 (octets 24 0x450000180042000240110000C0000232C0000201696A6B6C)).wf = false := by decide +kernel

/-- 42_frag_reassembly.md R180: empty, and one byte too long. -/
theorem test_wf_payload :
    (Instr.ipfrag 0 0 0 0 0 0 0 []).wf = false ∧
    (Instr.ipfrag 0 0 0 0 0 0 0 (List.replicate 65516 0)).wf = false := by
  simp only [Instr.wf, List.length_replicate, maxPayload]; decide

/-- 30_encoding.md R94: one byte too long. -/
theorem test_wf_segment :
    (Instr.tcprx 0 0 0 (List.replicate 65516 0)).wf = false ∧
    (Instr.tcpsListen 0 0 0 0 { bareSegment with pay := List.replicate 65496 0 }).wf = false := by
  simp only [Instr.wf, segmentOk, List.length_replicate, maxPayload]; decide

/-! Decoding: a word for every constructor, written out from 30_encoding.md R100, R110, R112 to R114, R117. -/

/-- 30_encoding.md R110. -/
theorem test_decode_port_words :
    decode (.command 0x00000000 0) = .ok .nop ∧
    decode (.command 0x50000000 0) = .ok (.lock) ∧
    decode (.command 0x51000000 0) = .ok (.unlock) ∧
    decode (.command 0x52000000 0) = .ok (.tick) ∧
    decode (.command 0x41000000 0) = .ok (.tcptick) ∧
    decode (.command 0x57030000 0) = .ok (.geta 3) ∧
    decode (.command 0x58FF0000 0) = .ok (.drain 0xFF) ∧
    decode (.command 0x5300107E 0) = .ok (.crrd 0 0x107E) ∧
    decode (.command 0x54000022 0) = .ok (.crwr 0 0x22) ∧
    decode (.command 0x5508001E 0) = .ok (.skrd 8 30) := by decide +kernel

/-- 30_encoding.md R110. -/
theorem test_decode_checksum_words :
    decode (.command 0x01000000 0) = .ok (.csum) ∧
    decode (.command 0x02030000 0) = .ok (.csumx 3) ∧
    decode (.command 0x03060014 0) = .ok (.csumul 6 20) := by decide +kernel

/-- 30_encoding.md R110. -/
theorem test_decode_ip_words :
    decode (.command 0x10010000 0) = .ok (.iprx 1) ∧
    decode (.command 0x12020011 0) = .ok (.iptx 2 17) ∧
    decode (.command 0x21030000 0) = .ok (.fragtick 3) ∧
    decode (.command 0x30040000 0) = .ok (.lookupt 4) ∧
    decode (.command 0x31050000 0) = .ok (.lookupu 5) := by decide +kernel

/-- 30_encoding.md R110. -/
theorem test_decode_socket_words :
    decode (.command 0x60000002 0) = .ok (.sopen 2) ∧
    decode (.command 0x61000050 0) = .ok (.sbind 0 80) ∧
    decode (.command 0x62010001 0) = .ok (.slisten 1 1) ∧
    decode (.command 0x63020050 0) = .ok (.sconnect 2 80) ∧
    decode (.command 0x64030000 0) = .ok (.saccept 3) ∧
    decode (.command 0x65010000 0) = .ok (.sshut 1) ∧
    decode (.command 0x66010000 0) = .ok (.sclose 1) ∧
    decode (.command 0x67010064 0) = .ok (.srecv 1 100) := by decide +kernel

/-- 30_encoding.md R100: `WDATA` goes with SETA. -/
theorem test_decode_seta : decode (.command 0x56010000 0x1B58) = .ok (.seta 1 7000) := by decide +kernel

/-- 30_encoding.md R115: bits that are not named are ignored. -/
theorem test_decode_ignored_bits : decode (.command 0x01FFFFFF 5) = .ok .csum := by decide +kernel

/-- 30_encoding.md R111: the codes next to the listed ones. -/
theorem test_decode_unlisted :
    [0x04, 0x0F, 0x11, 0x13, 0x20, 0x22, 0x2F, 0x32, 0x40, 0x42, 0x4F, 0x59, 0x5F, 0x68, 0xFF].all
      (fun n => decode (.command (commandWord n 0 0) 0) = .error (.badCommand n)) = true := by decide +kernel

/-- 30_encoding.md R112, R113, and the two operations without a selector. -/
theorem test_decode_internal :
    decode (.fragsel 0xC000 1 []) = .ok (.ipdemux 1 []) ∧ decode (.fragsel 0x2000 1 []) = .ok (.reasm 1 []) ∧
    decode (.proto 6 1 2 3 [4]) = .ok (.tcprx 1 2 3 [4]) ∧ decode (.proto 17 1 2 3 []) = .error (.noOperation 17) ∧
    decode (.pshdr 1 2 6 20) = .ok (.pshdr 1 2 6 20) ∧
    decode (.ipfrag 1 2 3 4 5 6 7 [8]) = .ok (.ipfrag 1 2 3 4 5 6 7 [8]) := by decide +kernel

/-- 30_encoding.md R114: the eleven codes and the first reserved one. -/
theorem test_decode_states :
    (List.range 12).map (fun c => decode (.state (BitVec.ofNat 4 c) 1 0 2 3 bareSegment)) =
      [.ok (.tcpsClosed 1 0 2 3 bareSegment), .ok (.tcpsListen 1 0 2 3 bareSegment),
       .ok (.tcpsSynSent 1 0 2 3 bareSegment), .ok (.tcpsSynRcvd 1 0 2 3 bareSegment),
       .ok (.tcpsEstablished 1 0 2 3 bareSegment), .ok (.tcpsCloseWait 1 0 2 3 bareSegment),
       .ok (.tcpsLastAck 1 0 2 3 bareSegment), .ok (.tcpsFinWait1 1 0 2 3 bareSegment),
       .ok (.tcpsFinWait2 1 0 2 3 bareSegment), .ok (.tcpsClosing 1 0 2 3 bareSegment),
       .ok (.tcpsTimeWait 1 0 2 3 bareSegment), .error (.reservedState 11)] := by decide +kernel

/-- The numbering of spec/opcode_table.json: `WDATA` above the word (log 17). -/
theorem test_table_words :
    decodeTableWord 32 0x03060014 = some (.csumul 6 20) ∧
    decodeTableWord 64 (0x56030000 + 7 * 2 ^ 32) = some (.seta 3 7) ∧
    decodeTableWord 16 0x2001 = some (.reasm 0 (bareDatagram 0x2001)) ∧
    decodeTableWord 8 6 = some (.tcprx 0 0 0 []) ∧
    decodeTableWord 4 10 = some (.tcpsTimeWait 0 0 0 0 bareSegment) ∧
    decodeTableWord 32 0x99000000 = none := by decide +kernel

/-- A word placed where the step takes its next instruction runs at that step (log 17). -/
theorem test_fetch_word :
    shown (step (State.reset.withFetchWord 64 (0x56030000 + 7 * 2 ^ 32))) (fun t => (t.a[3], t.cmd, t.st)) =
      some (some 7, 0x56030000, 0) := by decide +kernel

/-! Single operations. -/

/-- V6.1 -/
theorem test_nop :
    shown (exec .nop { s0 with r0 := 9, st := 9 }) (fun t => (t.r0, t.st)) =
      some (0, 0) := by decide +kernel

/-- V1.2 -/
theorem test_csum_single_byte :
    shown (exec .csum (withBytes 0x1000 [0xAB] (withRegs [0x1000, 1] s0))) (fun t => (t.r0, t.st)) =
      some (0x54FF, 0) := by decide +kernel

/-- V1.6 -/
theorem test_csum_odd_address :
    shown (exec .csum (withBytes 0x1001 [1, 2, 3, 4, 5] (withRegs [0x1001, 5] s0))) (fun t => t.r0) =
      some 0xF6F9 := by decide +kernel

/-- Program P1, row 8 -/
theorem test_csumx_three_chunks :
    shown (exec (.csumx 3) (withBytes 0x0800 (octets 24 0x000011010000000300002000000000010000300300000004)
      (withBytes 0x1101 [0, 1, 0xF2] (withBytes 0x2000 [3] (withBytes 0x3003 [0xF4, 0xF5, 0xF6, 0xF7]
        (withRegs [0x0800, 0, 8] s0)))))) (fun t => t.r0) =
      some 0x220D := by decide +kernel

/-- Program P1, row 15 -/
theorem test_csumul_syn :
    shown (exec (.csumul 6 20) (withBytes 0x0820 (octets 8 0x0000500000000014)
      (withBytes 0x5000 (octets 20 0x0FA00050000003E8000000005002200000000000)
        (withRegs [0x0820, 0, 20, peerR, hostH, 1] s0)))) (fun t => t.r0) =
      some 0xF7D6 := by decide +kernel

/-- V1.11 -/
theorem test_pshdr :
    shown (exec (.pshdr 0xC0000232 0xC0000201 6 20) s0) (fun t => t.out) =
      some (.bytes (octets 12 0xC0000232C000020100060014)) := by decide +kernel

/-- V2.20 -/
theorem test_iprx_udp :
    shown (exec (.iprx 0) (withBytes 0x4000 (octets 46 0x4500001C000100004011F69CC0000232C00002010FA0003500080000EEEEEEEEEEEEEEEEEEEEEEEEEEEEEEEEEEEE)
      (withRegs [0x4000, 46] s0))) (fun t => (t.st, t.r0, t.upq)) =
      some (0x1B, 0, [⟨.udp, 0, peerR, hostH, 17, (octets 8 0x0FA0003500080000)⟩]) := by decide +kernel

/-- V2.18 -/
theorem test_iprx_address_before_checksum :
    shown (exec (.iprx 0) (withBytes 0x4000 (octets 28 0x4500001C000100004011F79BC0000232C00002020FA0003500080000)
      (withRegs [0x4000, 28] s0))) (fun t => (t.st, t.cnt[0x17], t.cnt[0x19])) =
      some (0x17, 1, 0) := by decide +kernel

/-- V2.30 -/
theorem test_iptx_whole :
    shown (exec (.iptx 0 17) (withBytes 0x0800 (octets 8 0x0000110000000008)
      (withBytes 0x1100 (octets 8 0x0FA0003500080000)
        (withRegs [0x0800, 0, 8, hostH, peerR, 1, 0x4000]
          (withIface (fun f => { f with ipId := 0x1234 }) s0))))) (fun t => (t.st, t.r0, (t.iface 0).ipId, t.txq)) =
      some (0, 1, 0x1235, [⟨0, peerR, 64, 0, (octets 28 0x4500001C123400004011E469C0000201C00002320FA0003500080000)⟩]) := by decide +kernel

/-- V2.34 -/
theorem test_iptx_refused_by_link :
    shown (exec (.iptx 0 17) { (withBytes 0x0800 (octets 8 0x0000110000000008)
      (withBytes 0x1100 (octets 8 0x0FA0003500080000)
        (withRegs [0x0800, 0, 8, hostH, peerR, 1, 0x4000]
          (withIface (fun f => { f with ipId := 0x1234 }) s0)))) with link := [false] }) (fun t => (t.st, t.r0, (t.iface 0).ipId, t.txq.length, t.cnt[0x29])) =
      some (0x29, 0, 0x1235, 0, 1) := by decide +kernel

/-- V2.35 -/
theorem test_ipfrag_two :
    shown (exec (.ipfrag 0 0 0 64 17 hostH peerR (List.replicate 49 0xAA)) (withIface (fun f => { f with mtu := 68 }) s0)) (fun t => (t.st, t.r0, t.txq.map fun e => (e.pkt.take 20, e.pkt.length))) =
      some (0, 2, [((octets 20 0x45000044000020004011D675C0000201C0000232), 68),
        ((octets 20 0x45000015000000064011F69EC0000201C0000232), 21)]) := by decide +kernel

/-- V2.33 -/
theorem test_ipfrag_abandoned :
    shown (exec (.ipfrag 0 0 7 64 17 hostH peerR (List.replicate 200 0xAA)) { withIface (fun f => { f with mtu := 100 }) s0 with link := [true, false, true] }) (fun t => (t.st, t.r0, t.txq.length, t.link)) =
      some (0x29, 1, 1, [true]) := by decide +kernel

/-- V2.13 -/
theorem test_ipdemux_unknown :
    shown (exec (.ipdemux 0 (octets 24 0x4500001800010000402FF682C0000232C000020101020304)) s0) (fun t => (t.st, t.icmpq, t.cnt[0x1A])) =
      some (0x1A, [⟨0, 3, 2, 0, (octets 24 0x4500001800010000402FF682C0000232C000020101020304)⟩], 1) := by decide +kernel

/-- V3.1, step 1 -/
theorem test_reasm_first :
    shown (exec (.reasm 0 (octets 24 0x45000018004200024011F65DC0000232C0000201696A6B6C)) { s0 with now := 3 }) (fun t => (t.st, t.slot 0 0)) =
      some (0x23, ⟨true, peerR, hostH, 0x42, 17, 3, 0, [], 20, (octets 20 0x00000000000000000000000000000000696A6B6C), [⟨0, .fin 16⟩]⟩) := by decide +kernel

/-- The slot of V3.1 after step 2. -/
def almostWhole : Slot :=
  ⟨true, peerR, hostH, 0x42, 17, 3, 20,
    (octets 20 0x4500001C004220004011D65BC0000232C0000201), 20,
    (octets 20 0x0FA00035001400000000000000000000696A6B6C), [⟨8, .fin 16⟩]⟩

/-- V3.1, step 3 -/
theorem test_reasm_completes :
    shown (exec (.reasm 0 (octets 28 0x4500001C004220014011D65AC0000232C00002016162636465666768)) (withIface (fun f => { f with frag := [almostWhole, Slot.reset] }) s0)) (fun t => (t.st, t.upq, t.slot 0 0)) =
      some (0x1B, [⟨.udp, 0, peerR, hostH, 17, (octets 20 0x0FA00035001400006162636465666768696A6B6C)⟩], Slot.reset) := by decide +kernel

/-- V3.6 (a): age 15 -/
theorem test_fragtick_keeps :
    shown (exec (.fragtick 0) { withIface (fun f => { f with frag := [{ almostWhole with holes := [⟨8, .inf⟩] }, Slot.reset] }) s0 with now := 18 }) (fun t => (t.st, t.r0, t.cnt[0x24])) =
      some (0, 0, 0) := by decide +kernel

/-- V3.6 (a): age 16 -/
theorem test_fragtick_evicts :
    shown (exec (.fragtick 0) { withIface (fun f => { f with frag := [{ almostWhole with holes := [⟨8, .inf⟩] }, Slot.reset] }) s0 with now := 19 }) (fun t => (t.r0, t.cnt[0x24], t.slot 0 0, t.icmpq)) =
      some (1, 1, Slot.reset, [⟨0, 11, 1, 0, (octets 28 0x4500001C004220004011D65BC0000232C00002010FA0003500140000)⟩]) := by decide +kernel

/-- V4.1 -/
theorem test_lookupt_exact :
    shown (exec (.lookupt 0) (withRegs [peerR, hostH, 0x0FA00050] (withL listener (withK (k1 .established) s0)))) (fun t => (t.st, t.r0)) =
      some (0, 1) := by decide +kernel

/-- V4.2 -/
theorem test_lookupt_listener :
    shown (exec (.lookupt 0) (withRegs [peerR, hostH, 0x0FA10050] (withL listener (withK (k1 .established) s0)))) (fun t => (t.st, t.r0)) =
      some (0, 0) := by decide +kernel

/-- V4.5 -/
theorem test_lookupu_wildcard :
    shown (exec (.lookupu 0) (withRegs [peerR, hostH, 0x0FA00035]
      (withK { Sock.reset with type := .datagram, owned := true, localPort := 53 } s0))) (fun t => (t.st, t.r0)) =
      some (0, 1) := by decide +kernel

/-- 43_socket_lookup.md R214 -/
theorem test_lookupu_not_a_stream :
    shown (exec (.lookupu 0) (withRegs [peerR, hostH, 0x0FA00050] (withL listener (withK (k1 .established) s0)))) (fun t => (t.st, t.r0, t.cnt[0x30])) =
      some (0x30, 0xFFFFFFFF, 1) := by decide +kernel

/-- V6.5 -/
theorem test_lock_busy :
    shown (exec .lock { s0 with tid := 2 }) (fun t => (t.st, t.r0, t.lock, t.cnt[0x54])) =
      some (0x54, 1, .held 1, 0) := by decide +kernel

/-- V7.5 -/
theorem test_unlock_not_held :
    shown (exec .unlock { s0 with tid := 2 }) (fun t => (t.st, t.r0, t.lock, t.cnt[0x53])) =
      some (0x53, 0, .held 1, 1) := by decide +kernel

/-- 45_host_ops.md R283, 10_state.md R25: the wrap -/
theorem test_tick :
    shown (exec .tick { s0 with now := 0xFFFFFFFF }) (fun t => (t.st, t.r0, t.now)) =
      some (0, 0, 0) := by decide +kernel

/-- V6.8 -/
theorem test_crrd_lock :
    shown (exec (.crrd 0 2) s0) (fun t => (t.st, t.r0)) =
      some (0, 0x101) := by decide +kernel

/-- V7.11 -/
theorem test_crrd_reserved :
    shown (exec (.crrd 0 5) s0) (fun t => (t.st, t.r0)) =
      some (0x7E, 0) := by decide +kernel

/-- V6.10 -/
theorem test_crwr_mtu :
    shown (exec (.crwr 0 0x10) (withRegs [1499] s0)) (fun t => (t.st, (t.iface 0).mtu)) =
      some (0, 1499) := by decide +kernel

/-- V7.9 -/
theorem test_crwr_mtu_too_small :
    shown (exec (.crwr 0 0x10) (withRegs [67] s0)) (fun t => (t.st, (t.iface 0).mtu)) =
      some (0x7E, 1500) := by decide +kernel

/-- 45_host_ops.md R286 -/
theorem test_skrd_state :
    shown (exec (.skrd 1 7) (withK (k1 .established) s0)) (fun t => (t.st, t.r0)) =
      some (0, 4) := by decide +kernel

/-- V7.14 -/
theorem test_skrd_reserved :
    shown (exec (.skrd 0 30) s0) (fun t => (t.st, t.r0)) =
      some (0x7E, 0) := by decide +kernel

/-- V6.2 -/
theorem test_seta :
    shown (exec (.seta 3 7) State.reset) (fun t => (t.st, t.a[3], t.a[2])) =
      some (0, some 7, none) := by decide +kernel

/-- V7.8 -/
theorem test_seta_no_register :
    shown (exec (.seta 9 0) State.reset) (fun t => (t.st, t.cnt[0x7E])) =
      some (0x7E, 1) := by decide +kernel

/-- V6.3 -/
theorem test_geta :
    shown (exec (.geta 3) (withRegs [1, 2, 3, 7] State.reset)) (fun t => (t.st, t.r0)) =
      some (0, 7) := by decide +kernel

/-- V7.7 -/
theorem test_geta_unwritten :
    shown (exec (.geta 3) State.reset) (fun t => (t.st, t.r0)) =
      some (0x7E, 0) := by decide +kernel

/-- 45_host_ops.md R288 -/
theorem test_drain_events :
    shown (exec (.drain 2) { s0 with evq := [⟨1, .dataReady⟩], upq := [⟨.udp, 0, 0, 0, 17, []⟩] }) (fun t => (t.st, t.r0, t.evq.length, t.upq.length, t.out)) =
      some (0, 1, 0, 1, .drained [] [] [⟨1, .dataReady⟩] []) := by decide +kernel

/-- V6.14 -/
theorem test_sopen :
    shown (exec (.sopen 2) (withL listener s0)) (fun t => (t.st, t.r0, (t.sock 1).type)) =
      some (0, 1, .datagram) := by decide +kernel

/-- 95_test_vectors.md section 6 -/
theorem test_sopen_full :
    shown (exec (.sopen 1) { s0 with socks := List.replicate 8 listener }) (fun t => (t.st, t.r0, t.cnt[0x50])) =
      some (0x50, 0xFFFFFFFF, 1) := by decide +kernel

/-- V6.15 -/
theorem test_sbind :
    shown (exec (.sbind 0 80) (withRegs [0, 0xFF] (withL { Sock.reset with type := .stream, owned := true, ifBound := 0 } s0))) (fun t => (t.st, (t.sock 0).localPort, (t.sock 0).ifBound, (t.sock 0).localAddr)) =
      some (0, 80, 0xFF, .unspec) := by decide +kernel

/-- V6.16 -/
theorem test_slisten :
    shown (exec (.slisten 0 4) (withL { Sock.reset with type := .stream, owned := true, localPort := 80 } s0)) (fun t => (t.st, (t.sock 0).state, (t.sock 0).synqMax)) =
      some (0, .listen, 4) := by decide +kernel

/-- V6.20 -/
theorem test_slisten_datagram :
    shown (exec (.slisten 1 1) (withK { Sock.reset with type := .datagram, owned := true } s0)) (fun t => (t.st, t.r0, t.cnt[0x51])) =
      some (0x51, 0, 1) := by decide +kernel

/-- V5.5 -/
theorem test_sconnect :
    shown (exec (.sconnect 0 80) (withRegs [peerR, 5000, 0] (withL { Sock.reset with type := .stream, owned := true, localPort := 4000 }
      (withIface (fun f => { f with ipId := 0x200 }) s0)))) (fun t => (t.st, (t.sock 0).sndNxt, (t.sock 0).mss, t.txq.map (·.pkt))) =
      some (0, 5001, 536, [(octets 44 0x4500002C020000004006F498C0000201C00002320FA00050000013880000000060020800E87A0000020405B4)]) := by decide +kernel

/-- Program P3, row 19 -/
theorem test_saccept :
    shown (exec (.saccept 0) (withRegs [0x4000, 7000]
      (withL { listener with synq := [⟨0, .v4 peerR, .v4 hostH, 4000, 1000, 1460⟩] } s0))) (fun t => (t.r0, (t.sock 1).state, (t.sock 0).synq.length, t.txq.map (·.pkt))) =
      some (1, .synRcvd, 0,
        [(octets 44 0x4500002C000000004006F698C0000201C000023200500FA000001B58000003E960120800DCB10000020405B4)]) := by decide +kernel

/-- V5.8d -/
theorem test_sshut :
    shown (exec (.sshut 1) (withK { k1 .closeWait with rcvNxt := 9002 } s0)) (fun t => (t.st, (t.sock 1).state, (t.sock 1).sndNxt, sent t)) =
      some (0, .lastAck, 5002, [(octets 20 0x00500FA0000013890000232A50110800DCFC0000)]) := by decide +kernel

/-- 45_host_ops.md R296 -/
theorem test_sclose_timewait :
    shown (exec (.sclose 1) (withK (k1 .timeWait) s0)) (fun t => (t.st, t.sock 1)) =
      some (0, { k1 .timeWait with owned := false }) := by decide +kernel

/-- V6.23 -/
theorem test_sclose_free :
    shown (exec (.sclose 1) s0) (fun t => (t.st, t.r0)) =
      some (0x51, 0) := by decide +kernel

/-- Program P4, row 4 -/
theorem test_srecv :
    shown (exec (.srecv 1 100) (withK { k1 .established with rxq := (octets 4 0x4745540A), rcvWnd := 2044 } s0)) (fun t => (t.st, t.r0, t.out, (t.sock 1).rcvWnd, (t.sock 1).rxq)) =
      some (0, 4, .bytes (octets 4 0x4745540A), 2048, []) := by decide +kernel

/-- V6.21 -/
theorem test_srecv_empty :
    shown (exec (.srecv 1 16) (withK (k1 .established) s0)) (fun t => (t.st, t.r0, t.cnt[0x52])) =
      some (0x52, 0, 0) := by decide +kernel

/-- V5.1d -/
theorem test_tcprx_bad_checksum :
    shown (exec (.tcprx 0 peerR hostH (octets 20 0x0FA0005000002329000013895010200044FE0000)) (withK (k1 .established) s0)) (fun t => (t.st, t.r0, t.sock 1)) =
      some (0x42, 0xFFFFFFFF, k1 .established) := by decide +kernel

/-- V5.7a -/
theorem test_tcprx_data :
    shown (exec (.tcprx 0 peerR hostH (octets 24 0x0FA00050000023290000138950102000275D0000DEADBEEF)) (withK (k1 .established) s0)) (fun t => (t.r0, (t.sock 1).rxq, t.evq, sent t)) =
      some (1, (octets 4 0xDEADBEEF), [⟨1, .dataReady⟩],
        [(octets 20 0x00500FA0000013890000232D501007FCDCFE0000)]) := by decide +kernel

/-- V5.13h -/
theorem test_tcptick_closes :
    shown (exec .tcptick { withK { k1 .timeWait with t2msl := ⟨true, 100⟩, owned := false } s0 with now := 140 }) (fun t => (t.st, t.r0, t.sock 1)) =
      some (0, 1, Sock.reset) := by decide +kernel

/-- V5.7, deferred acknowledgement -/
theorem test_tcptick_pays :
    shown (exec .tcptick (withK { k1 .established with ackPending := true } s0)) (fun t => (t.r0, (t.sock 1).ackPending, sent t)) =
      some (0, false, [(octets 20 0x00500FA0000013890000232950100800DCFE0000)]) := by decide +kernel

/-- V5.3d -/
theorem test_closed_fin :
    shown (exec (.tcpsClosed 1 0 peerR hostH (segmentOf 23 0x0FA00050000003E8000000005001000013D30000010203)) (withK (k1 .closed) s0)) (fun t => (t.st, t.sock 1, sent t)) =
      some (0x49, k1 .closed, [(octets 20 0x00500FA000000000000003EC5014000017C10000)]) := by decide +kernel

/-- V5.4g -/
theorem test_listen_queues :
    shown (exec (.tcpsListen 1 0 peerR hostH (segmentOf 24 0x0FA10050000007D00000000060022000BEBD000002042328)) (withK listener s0)) (fun t => (t.st, (t.sock 1).synq, t.evq, t.txq.length)) =
      some (0, [⟨0, .v4 peerR, .v4 hostH, 4001, 2000, 1460⟩], [⟨1, .connPending⟩], 0) := by decide +kernel

/-- V5.4c -/
theorem test_listen_ack :
    shown (exec (.tcpsListen 1 0 peerR hostH (segmentOf 20 0x0FA00050000003E8000010925012000007350000)) (withK listener s0)) (fun t => (t.st, sent t)) =
      some (0x44, [(octets 20 0x00500FA00000109200000000500400000B2B0000)]) := by decide +kernel

/-- V5.5a -/
theorem test_synsent_synack :
    shown (exec (.tcpsSynSent 1 0 peerR hostH (segmentOf 24 0x00500FA0000023280000138960121000BD7D000002040578)) (withK { k1 .synSent with localPort := 4000, remotePort := 80, sndUna := 5000, rcvNxt := 0, sndWnd := 0 } s0)) (fun t => ((t.sock 1).state, (t.sock 1).rcvNxt, (t.sock 1).mss, sent t)) =
      some (.established, 9001, 1400, [(octets 20 0x0FA00050000013890000232950100800DCFE0000)]) := by decide +kernel

/-- V5.5b -/
theorem test_synsent_syn :
    shown (exec (.tcpsSynSent 1 0 peerR hostH (segmentOf 24 0x00500FA0000023280000000060021000D116000002040578)) (withK { k1 .synSent with localPort := 4000, remotePort := 80, sndUna := 5000, rcvNxt := 0, sndWnd := 0 } s0)) (fun t => ((t.sock 1).state, (t.sock 1).sndUna, sent t)) =
      some (.synRcvd, 5000, [(octets 24 0x0FA00050000013880000232960120800C5410000020405B4)]) := by decide +kernel

/-- V5.6h -/
theorem test_synrcvd_ack_data_fin :
    shown (exec (.tcpsSynRcvd 1 0 peerR hostH (segmentOf 22 0x0FA00050000003E900001B5950112000740200006869)) (withK { k1 .synRcvd with iss := 7000, sndUna := 7000, sndNxt := 7001, irs := 1000, rcvNxt := 1001, sndWnd := 0 } s0)) (fun t => ((t.sock 1).state, (t.sock 1).sndUna, (t.sock 1).rxq, sent t)) =
      some (.closeWait, 7001, [0x68, 0x69], [(octets 20 0x00500FA000001B59000003EC501007FEF46D0000)]) := by decide +kernel

/-- V5.6g -/
theorem test_synrcvd_syn_in_window :
    shown (exec (.tcpsSynRcvd 1 0 peerR hostH (segmentOf 20 0x0FA00050000003E90000000050022000F7D50000)) (withK { k1 .synRcvd with iss := 7000, sndUna := 7000, sndNxt := 7001, irs := 1000, rcvNxt := 1001, sndWnd := 0 } s0)) (fun t => (t.st, (t.sock 1).state, sent t)) =
      some (0x45, .synRcvd, [(octets 20 0x00500FA000000000000003EA5014000017C30000)]) := by decide +kernel

/-- V5.7p -/
theorem test_established_partly_old :
    shown (exec (.tcpsEstablished 1 0 peerR hostH (segmentOf 24 0x0FA00050000023270000138950102000C0F6000001020304)) (withK (k1 .established) s0)) (fun t => (t.st, (t.sock 1).rxq, (t.sock 1).rcvNxt, (t.sock 1).rcvWnd, sent t)) =
      some (0, [3, 4], 9003, 2046, [(octets 20 0x00500FA0000013890000232B501007FEDCFE0000)]) := by decide +kernel

/-- V5.7t -/
theorem test_established_across_wrap :
    shown (exec (.tcpsEstablished 1 0 peerR hostH (segmentOf 24 0x0FA00050FFFFFFFE0000138950102000E41E000001020304)) (withK { k1 .established with rcvNxt := 0xFFFFFFFE } s0)) (fun t => ((t.sock 1).rcvNxt, (t.sock 1).rxq, (t.sock 1).rcvWnd)) =
      some (2, [1, 2, 3, 4], 2044) := by decide +kernel

/-- V5.8c -/
theorem test_closewait_data :
    shown (exec (.tcpsCloseWait 1 0 peerR hostH (segmentOf 21 0x0FA000500000232A0000138950102000BDFC000007)) (withK { k1 .closeWait with rcvNxt := 9002 } s0)) (fun t => (t.st, (t.sock 1).rxq, (t.sock 1).rcvNxt, sent t)) =
      some (0, [7], 9003, [(octets 20 0x00500FA0000013890000232B501007FFDCFD0000)]) := by decide +kernel

/-- V5.9a -/
theorem test_lastack_acked :
    shown (exec (.tcpsLastAck 1 0 peerR hostH (segmentOf 20 0x0FA000500000232A0000138A50102000C4FC0000)) (withK { k1 .lastAck with sndNxt := 5002, rcvNxt := 9002, owned := false } s0)) (fun t => (t.st, t.sock 1)) =
      some (0, Sock.reset) := by decide +kernel

/-- V5.9b -/
theorem test_lastack_other_ack :
    shown (exec (.tcpsLastAck 1 0 peerR hostH (segmentOf 20 0x0FA000500000232A0000138950102000C4FD0000)) (withK { k1 .lastAck with sndNxt := 5002, rcvNxt := 9002 } s0)) (fun t => (t.st, (t.sock 1).state)) =
      some (0x46, .lastAck) := by decide +kernel

/-- V5.10b -/
theorem test_finwait1_fin_unacked :
    shown (exec (.tcpsFinWait1 1 0 peerR hostH (segmentOf 20 0x0FA00050000023290000138950112000C4FD0000)) (withK { k1 .finWait1 with sndNxt := 5002 } s0)) (fun t => (t.st, (t.sock 1).state, (t.sock 1).rcvNxt, sent t)) =
      some (0, .closing, 9002, [(octets 20 0x00500FA00000138A0000232A50100800DCFC0000)]) := by decide +kernel

/-- V5.10c -/
theorem test_finwait1_fin_acked :
    shown (exec (.tcpsFinWait1 1 0 peerR hostH (segmentOf 20 0x0FA00050000023290000138A50112000C4FC0000)) { withK { k1 .finWait1 with sndNxt := 5002 } s0 with now := 100 }) (fun t => ((t.sock 1).state, (t.sock 1).t2msl, (t.sock 1).tFw2, (t.sock 1).released, t.txq.length)) =
      some (.timeWait, ⟨true, 100⟩, ⟨false, 0⟩, true, 1) := by decide +kernel

/-- V5.11a -/
theorem test_finwait2_fin :
    shown (exec (.tcpsFinWait2 1 0 peerR hostH (segmentOf 20 0x0FA000500000232D0000138A50112000C4F80000)) { withK { k1 .finWait2 with sndUna := 5002, sndNxt := 5002, rcvNxt := 9005, tFw2 := ⟨true, 100⟩ } s0 with now := 120 }) (fun t => ((t.sock 1).state, (t.sock 1).t2msl, (t.sock 1).tFw2, sent t)) =
      some (.timeWait, ⟨true, 120⟩, ⟨false, 0⟩, [(octets 20 0x00500FA00000138A0000232E50100800DCF80000)]) := by decide +kernel

/-- V5.12c -/
theorem test_closing_acked :
    shown (exec (.tcpsClosing 1 0 peerR hostH (segmentOf 21 0x0FA000500000232A0000138A50102000C3FB000001)) (withK { k1 .closing with sndNxt := 5002, rcvNxt := 9002 } s0)) (fun t => (t.st, (t.sock 1).state, (t.sock 1).sndUna, (t.sock 1).rxq, t.txq.length)) =
      some (0, .timeWait, 5002, [], 0) := by decide +kernel

/-- V5.13b -/
theorem test_timewait_fin_again :
    shown (exec (.tcpsTimeWait 1 0 peerR hostH (segmentOf 22 0x0FA000500000232B0000138A50112000C3F600000102)) { withK { k1 .timeWait with sndUna := 5002, sndNxt := 5002, rcvNxt := 9006, t2msl := ⟨true, 100⟩, released := true } s0 with now := 110 }) (fun t => (t.st, (t.sock 1).t2msl, (t.sock 1).rxq, sent t)) =
      some (0, ⟨true, 110⟩, [], [(octets 20 0x00500FA00000138A0000232E50100800DCF80000)]) := by decide +kernel

/-- V5.13e -/
theorem test_timewait_syn :
    shown (exec (.tcpsTimeWait 1 0 peerR hostH (segmentOf 20 0x0FA0005000004E200000000050022000AD9E0000)) { withK { k1 .timeWait with sndUna := 5002, sndNxt := 5002, rcvNxt := 9006, t2msl := ⟨true, 100⟩, released := true } s0 with now := 110 }) (fun t => (t.st, (t.sock 1).state)) =
      some (0x46, .timeWait) := by decide +kernel

/-! The port. -/

/-- V7.2: an illegal command is refused before the lock is looked at. -/
theorem test_illegal_command :
    shown (step { State.reset with port := [.command 0x99000000 1 0] }) (fun t => (t.st, t.r0, t.cnt[0x7F])) =
      some (0x7F, 0, 1) := by decide +kernel

/-- V7.1: the lock is looked at before the operand registers. -/
theorem test_lock_before_operands :
    shown (step { State.reset with port := [.command 0x10000000 1 0] }) (fun t => (t.st, t.tid)) =
      some (0x53, 1) := by decide +kernel

/-- Program P1: the host writes buffer memory between commands; addresses wrap. -/
theorem test_host_store :
    shown (step { State.reset with port := [.store 0xFFFFFFFF [0xF6, 0x9C]] })
      (fun t => (memGet t.mem 0xFFFFFFFF, memGet t.mem 0, Memory.wf t.mem)) = some (0xF6, 0x9C, true) := by
  decide +kernel

/-- 70_reset_and_hazards.md R340, R342. -/
theorem test_reset_input :
    shown (step { withBytes 5 [6] (withK (k1 .established) s0) with port := [.reset, .command 0 0 0] })
      (fun t => (t.lock, t.sock 1, memGet t.mem 5, t.port.length)) = some (.free, Sock.reset, 6, 1) := by
  decide +kernel

/-- An internal operation entered with an interface that does not exist (log 15). -/
theorem test_no_such_interface : exec (.ipdemux 1 []) s0 = .fault .noSuchInterface := rfl

/-- A state operation entered with a record that does not exist (log 15). -/
theorem test_no_such_record :
    exec (.tcpsClosed 8 0 0 0 bareSegment) s0 = .fault .noSuchRecord := rfl

/-- A bare selector value that selects nothing (log 15). -/
theorem test_no_operation :
    step { State.reset with port := [.internal (.state 11 0 0 0 0 bareSegment)] } = .fault .noOperation := rfl

/-! Witnesses: for every obligation with hypotheses, states and operands that meet them, clause by clause. -/

/-- `s0` with something presented. -/
def presenting (l : List Input) : State := { s0 with port := l }

theorem witness_DecodeEncodeAgree :
    (Instr.csumul 0xFF 0xFFFF).wf = true ∧
    (Instr.ipdemux 0xFF (octets 20 0x450000140042000040010000C0000232C0000201)).wf = true ∧
    (Instr.tcpsTimeWait 0xFF 0xFF 1 2 bareSegment).wf = true := by decide +kernel

theorem witness_CommandCodesAreExactly27 :
    cmdOp 0x67FFFFFF ∈ commandCodes ∧ cmdOp 0x68000000 ∉ commandCodes := by decide

theorem witness_UnnamedFieldsAreIgnored :
    0x52#8 ∈ [0x00#8, 0x01#8, 0x41#8, 0x50#8, 0x51#8, 0x52#8] ∧
    0x66#8 ∈ [0x02#8, 0x10#8, 0x21#8, 0x30#8, 0x31#8, 0x57#8, 0x58#8, 0x64#8, 0x65#8, 0x66#8] ∧
    cmdOp 0x57000000 ≠ 0x56 ∧ decodeCommand (commandWord 0x56 3 0xFFFF) 7 = decodeCommand (commandWord 0x56 3 0) 7 := by
  decide +kernel

theorem witness_StepRunsDecodedInstruction :
    (presenting [.command 0x67010064 2 0]).port = .command 0x67010064 2 0 :: [] ∧
    decode (.command 0x67010064 0) = .ok (.srecv 1 100) ∧
    (presenting [.internal (.pshdr 1 2 6 20)]).port = .internal (.pshdr 1 2 6 20) :: [] ∧
    decode (.pshdr 1 2 6 20) = .ok (.pshdr 1 2 6 20) ∧ s0.port = [] := by decide +kernel

theorem witness_IllegalCommandOnlyCounts :
    (presenting [.command 0x99000000 2 0]).port = .command 0x99000000 2 0 :: [] ∧
    cmdOp 0x99000000 ∉ commandCodes := by decide +kernel

theorem witness_ResetInputRestoresContext :
    (presenting [.reset, .reset]).port = .reset :: [.reset] := by decide +kernel

theorem witness_LockNotHeldIsRefused :
    needsLock .tick = true ∧ State.reset.lock ≠ .held State.reset.tid ∧
    { s0 with tid := 2 }.lock ≠ .held { s0 with tid := 2 }.tid := by decide +kernel

theorem witness_BadOperandIsRefused :
    (Instr.iprx 0).isCommand = true ∧ s0.par.legal = true ∧ s0.lock = .held s0.tid ∧
    (∃ r ∈ operandRegs (.iprx 0), s0.a[r] = none) ∧
    ¬ operandsLegal s0 (.iprx 1) ∧ ¬ operandsLegal s0 (.skrd 7 30) ∧ ¬ operandsLegal s0 (.slisten 0 5) ∧
    ¬ operandsLegal (withRegs [67] s0) (.crwr 0 0x10) := by
  refine ⟨rfl, by decide, by decide +kernel, ⟨0, by decide, by decide +kernel⟩, ?_, ?_, ?_, ?_⟩
  · unfold operandsLegal; decide +kernel
  · unfold operandsLegal; decide +kernel
  · unfold operandsLegal; decide +kernel
  · intro h
    exact absurd (h.2.2.1 rfl).1 (by decide +kernel)

theorem witness_EveryHostInputCompletes :
    (Instr.srecv 0 0).isCommand = true ∧ hostOnly (presenting [.command 0 0 0, .store 0 [1], .reset]) := by
  unfold hostOnly; decide +kernel

theorem witness_LockAndTimeKeepTheirCommands :
    (∃ t, exec .lock State.reset = .next t ∧ t.lock ≠ State.reset.lock) ∧
    (∃ t, exec .unlock s0 = .next t ∧ t.lock ≠ s0.lock) ∧
    ∃ t, exec .tick s0 = .next t ∧ t.now ≠ s0.now :=
  ⟨⟨_, rfl, by decide +kernel⟩, ⟨_, rfl, by decide +kernel⟩, ⟨_, rfl, by decide +kernel⟩⟩

theorem witness_BufferMemoryIsNeverWritten :
    ∃ t, exec .csum (withBytes 0xFFFFFFFF [1, 2] (withRegs [0xFFFFFFFF, 2] s0)) = .next t := ⟨_, rfl⟩

theorem witness_OperandRegistersWrittenOnlyBySeta :
    ∃ t, exec (.seta 7 5) s0 = .next t ∧ t.a[(7 : Fin 8)] ≠ s0.a[(7 : Fin 8)] := ⟨_, rfl, by decide +kernel⟩

theorem witness_ResultAndStatusAreNoInputs : (Instr.iprx 0).isCommand = true := rfl

theorem witness_PortCommandResults :
    State.reset.lock = .free ∧ s0.lock = .held 1 ∧ s0.lock = .held s0.tid ∧
    State.reset.lock ≠ .held State.reset.tid ∧ (withRegs [4] s0).a[(0 : Fin 8)] = some 4 ∧
    (withRegs [4] s0).a[(7 : Fin 8)] = none ∧ 7 < (8 : Byte).toNat := by decide +kernel

theorem witness_CrrdReadsEveryRegister :
    s0.par.legal = true ∧ s0.lock = .held s0.tid ∧ (0 : Byte).toNat < s0.par.nIf ∧ 0 < s0.par.nAddr ∧
    3 < s0.par.nMcast := by decide +kernel

theorem witness_CrwrWritesEveryRegister :
    s0.par.legal = true ∧ s0.lock = .held s0.tid ∧ (0 : Byte).toNat < s0.par.nIf ∧
    (withRegs [68] s0).a[(0 : Fin 8)] = some 68 ∧ 68 ≤ (68 : Word).toNat ∧ (65535 : Word).toNat ≤ 65535 ∧
    (32 : Word).toNat ≤ 32 ∧ (2 : Word) = AddrStatus.valid.code.setWidth 32 ∧ multicast 0xEFFFFFFF ∧
    0 < s0.par.nAddr ∧ 3 < s0.par.nMcast := by
  unfold multicast; decide +kernel

theorem witness_SkrdReadsEveryField :
    s0.lock = .held s0.tid ∧ (7 : Byte).toNat < s0.par.nSock := by decide +kernel

theorem witness_DrainAndPseudoHeaderOutputs :
    s0.lock = .held s0.tid ∧ (4 : Byte) ∉ [0x00#8, 0x01#8, 0x02#8, 0x03#8, 0xFF#8] := by decide +kernel

theorem witness_ChecksumCommandResults :
    let s := withRegs [1, 2, 3, 4, 5, 6] s0
    s.a[0] = some 1 ∧ s.a[1] = some 2 ∧ s.a[2] = some 3 ∧ s.a[3] = some 4 ∧ s.a[4] = some 5 ∧ s.a[5] = some 6 :=
  ⟨rfl, rfl, rfl, rfl, rfl, rfl⟩

/-- The three chunks of V1.8 (95_test_vectors.md): the bytes that V1.8b and V1.8d select. -/
theorem witness_ScatteredDatapathIsChecksum :
    let s := withRegs [0x0800, 2, 5]
      (withBytes 0x0800 (octets 24 0x000010010000000300002000000000010000300300000004) s0)
    s.a[0] = some 0x0800 ∧ s.a[1] = some 2 ∧ s.a[2] = some 5 ∧
    chunkTable s.mem 0x0800 3 = [(0x1001, 3), (0x2000, 1), (0x3003, 4)] ∧
    regionPortions 2 7 0 [(0x1001, 3), (0x2000, 1), (0x3003, 4)] = [(0x1003, 1), (0x2000, 1), (0x3003, 3)] ∧
    regionPortions 8 8 0 [(0x1001, 3), (0x2000, 1), (0x3003, 4)] = [] :=
  ⟨rfl, rfl, rfl, by decide +kernel, by decide +kernel, by decide +kernel⟩

/-- V1.8a and V1.8b by the datapath. -/
theorem test_scattered_datapath :
    let m := memStore (memStore (memStore [] 0x1001 [0x00, 0x01, 0xF2]) 0x2000 [0x03]) 0x3003 [0xF4, 0xF5, 0xF6, 0xF7]
    scatteredChecksum Params.sample m [(0x1001, 3), (0x2000, 1), (0x3003, 4)] 0 8 = 0x220D ∧
    scatteredChecksum Params.sample m [(0x1001, 3), (0x2000, 1), (0x3003, 4)] 2 5 = 0x2305 := by decide +kernel

theorem witness_GeneratedChecksumVerifies :
    Params.sample.csumPreset = 0x0000 ∧ { Params.sample with csumPreset := 0xFFFF }.csumPreset = 0xFFFF ∧
    4 % 2 = 0 ∧ 4 + 2 ≤ ([1, 2, 3, 4, 0, 0] : Bytes).length ∧ byteAt [1, 2, 3, 4, 0, 0] 4 = 0 ∧
    byteAt [1, 2, 3, 4, 0, 0] 5 = 0 := by decide

/-- A stream record bound to a port. -/
def boundK : Sock := { Sock.reset with type := .stream, owned := true, localPort := 4000 }

theorem witness_OpenBindListenResults :
    s0.lock = .held s0.tid ∧ (4 : Half) ∉ [0x0001#16, 0x0002#16, 0x0003#16] ∧
    leastFree (withL listener s0) 1 ∧ tableFull { s0 with socks := List.replicate 8 listener } ∧
    (7 : Byte).toNat < s0.par.nSock ∧ (withRegs [0, 1] s0).a[1] = some 1 ∧ (1 : Word) ≠ 0xFF ∧
    s0.par.nIf ≤ (1 : Word).toNat ∧ (0 : Word).toNat < s0.par.nIf ∧
    (boundK.type ≠ .unused ∧ boundK.owned = true ∧ boundK.state = .closed) ∧
    ¬ (listener.type ≠ .unused ∧ listener.owned = true ∧ listener.state = .closed) ∧
    s0.par.synqMax < (5 : Half).toNat ∧ (4 : Half).toNat ≤ s0.par.synqMax ∧
    boundStream ((withK boundK s0).sock 1) ∧ ¬ boundStream ((withK listener s0).sock 1) := by
  unfold leastFree tableFull boundStream heldStream; decide +kernel

theorem witness_SconnectSendsSyn :
    let s := withRegs [peerR, 5000, 0] (withK boundK s0)
    let f : Iface := { s0.iface 0 with addr := [⟨hostH, 24, .tentative⟩] }
    s.lock = .held s.tid ∧ (1 : Byte).toNat < s.par.nSock ∧ s.a[0] = some peerR ∧ peerR ≠ 0 ∧
    s.a[1] = some 5000 ∧ s.a[2] = some 0 ∧ (0 : Word).toNat < s.par.nIf ∧ boundStream (s.sock 1) ∧
    connectFrom (s.sock 1) (s.iface 0) hostH ∧ connectFrom { boundK with localAddr := .v4 7 } (s.iface 0) 7 ∧
    ¬ boundStream (s.sock 0) ∧ (boundK.localAddr = .unspec ∧ ∀ e ∈ f.addr, e.status ≠ .valid) := by
  refine ⟨rfl, by decide, rfl, by decide, rfl, rfl, by decide, ?_, ?_, ?_, ?_, by decide +kernel⟩
  · unfold boundStream heldStream; decide +kernel
  · exact .inr ⟨.inl rfl, [], ⟨hostH, 24, .valid⟩, [], rfl, rfl, rfl, by simp⟩
  · exact .inl ⟨rfl, by decide⟩
  · unfold boundStream heldStream; decide +kernel

/-- A listener with one request. -/
def asked : Sock := { listener with synq := [⟨0, .v4 peerR, .v4 hostH, 4000, 1000, 1460⟩] }

theorem witness_SacceptTakesOldestRequest :
    let s := withRegs [0, 7000] (withL asked s0)
    s.lock = .held s.tid ∧ (0 : Byte).toNat < s.par.nSock ∧ s.a[1] = some 7000 ∧ heldStream (s.sock 0) ∧
    (s.sock 0).state = .listen ∧ listener.synq = [] ∧
    (s.sock 0).synq = ⟨0, .v4 peerR, .v4 hostH, 4000, 1000, 1460⟩ :: [] ∧ leastFree s 1 ∧
    tableFull { s with socks := List.replicate 8 asked } ∧
    ¬ (heldStream (s.sock 1) ∧ (s.sock 1).state = .listen) := by
  refine ⟨rfl, by decide, rfl, ?_, rfl, rfl, rfl, ?_, ?_, ?_⟩
  · unfold heldStream; decide +kernel
  · unfold leastFree; decide +kernel
  · unfold tableFull; decide +kernel
  · unfold heldStream; decide +kernel

theorem witness_ShutAndCloseResults :
    let s (st : TcpState) := withK (k1 st) s0
    (∀ st ∈ [TcpState.established, .closeWait, .synRcvd, .finWait1, .finWait2, .closing, .lastAck, .timeWait],
      (s st).lock = .held (s st).tid ∧ (1 : Byte).toNat < (s st).par.nSock ∧ heldStream ((s st).sock 1) ∧
      ((s st).sock 1).state = st) ∧
    (((s .listen).sock 1).type ≠ .unused ∧ ((s .listen).sock 1).owned = true ∧
      ((s .listen).sock 1).state ∈ [TcpState.closed, .listen, .synSent]) ∧
    ¬ heldStream (s0.sock 1) ∧ (s0.sock 1).type = .unused := by
  dsimp only; unfold heldStream; decide +kernel

theorem witness_SrecvTakesBytes :
    let s := withK { k1 .timeWait with rxq := [7] } s0
    s.lock = .held s.tid ∧ (1 : Byte).toNat < s.par.nSock ∧ (0xFFFF : Half) ≠ 0 ∧ heldStream (s.sock 1) ∧
    (s.sock 1).rxq ≠ [] ∧ heldStream (k1 .established) ∧ (k1 .established).rxq = [] ∧
    ¬ heldStream (s.sock 0) := by
  dsimp only; unfold heldStream; decide +kernel

theorem witness_TickIsItsSweeps : s0.lock = .held s0.tid ∧ s0.par.legal = true := by decide +kernel

theorem witness_FragtickEvictsOldSlots :
    let s := { withIface (fun f => { f with frag := [almostWhole, Slot.reset] }) s0 with now := 16 }
    s.lock = .held s.tid ∧ (0 : Byte).toNat < s.par.nIf ∧ s.par.nIf ≤ (1 : Byte).toNat ∧
    (s.iface 0).frag.length = s.par.nFrag ∧
    (∀ x ∈ (s.iface 0).frag, x.inUse = true → x.holes ≠ []) ∧ (s.iface 0).frag.map (tooOld s.par s.now) = [false, false] := by
  decide +kernel

theorem witness_TcptickClosesLapsedRecords :
    let s := { withK { k1 .timeWait with t2msl := ⟨true, 100⟩ } (withL { k1 .finWait2 with ackPending := true } s0) with
      now := 140 }
    s.lock = .held s.tid ∧ sized s ∧ sized s0 ∧ (∀ k ∈ s0.socks, owesAck s0.par s0.now k = false) ∧
    lapsed s.par s.now (s.sock 1) = true ∧ 0 < s.par.nSock ∧ owesAck s.par s.now (s.sock 0) = true ∧
    ∀ m < s.par.nSock, m ≠ 0 → owesAck s.par s.now (s.sock m) = false := by
  dsimp only; unfold sized; decide +kernel

/-- The table of 95_test_vectors.md section 5. -/
def table : State :=
  { withL listener (withK (k1 .established) s0) with
    socks := (withL listener (withK (k1 .established) s0)).socks.set 2
      { Sock.reset with type := .datagram, owned := true, localPort := 53 } }

/-- No record of the table but 0 and 1 is a candidate, and which of them is depends on the ports. -/
theorem candidates (src dst : Word) (dp : Half) (m : Nat) (hm : m < table.socks.length)
    (h : tcpCandidate (table.sock m) 0 src dst dp) : (m = 0 ∨ m = 1) ∧ dp = 80 := by
  obtain ⟨h1, -, -, h2, -⟩ := h
  have h8 : m < 8 := hm
  interval_cases m <;> first
    | exact ⟨.inl rfl, h2.symm⟩
    | exact ⟨.inr rfl, h2.symm⟩
    | exact absurd h1 (by decide +kernel)

theorem witness_LookupFindsTheMatch :
    table.lock = .held table.tid ∧ ((0 : Byte).toNat < table.par.nIf ∧ table.par.nIf ≤ (1 : Byte).toNat) ∧
    (withRegs [peerR, hostH, 0x0FA00050] table).a[2] = some 0x0FA00050 ∧
    tcpMatch table 0 peerR hostH 4000 80 1 ∧ tcpMatch table 0 peerR hostH 4001 80 0 ∧
    (∀ n, ¬ tcpMatch table 0 peerR hostH 4000 81 n) ∧ udpMatch table 0 peerR hostH 4000 53 2 ∧
    ∀ n, ¬ udpMatch table 0 peerR hostH 4000 80 n := by
  have none81 : ∀ m, ¬ (m < table.socks.length ∧ tcpCandidate (table.sock m) 0 peerR hostH 81) := fun m h =>
    absurd (candidates _ _ _ m h.1 h.2).2 (by decide)
  refine ⟨rfl, by decide +kernel, rfl, .inl ⟨?_, ?_⟩, .inr ⟨?_, ?_, ?_⟩, ?_, ⟨?_, ?_⟩, ?_⟩
  · unfold tcpCandidate endpointFits; decide +kernel
  · unfold tcpCandidate endpointFits; decide +kernel
  · rintro m ⟨⟨h, hc⟩, hp⟩
    rcases (candidates _ _ _ m h hc).1 with rfl | rfl
    · exact absurd hp (by decide +kernel)
    · exact absurd hp (by decide +kernel)
  · unfold tcpCandidate endpointFits; decide +kernel
  · intro m hm; omega
  · rintro n (⟨h, -⟩ | ⟨-, h, -⟩)
    · exact none81 n h.1
    · exact none81 n h.1
  · unfold endpointFits; decide +kernel
  · unfold endpointFits; decide +kernel
  · rintro n ⟨⟨h, ht, hf, -⟩, -⟩
    have h8 : n < 8 := h
    obtain ⟨-, -, hp, -⟩ := hf
    interval_cases n <;> first
      | exact absurd ht (by decide +kernel)
      | exact absurd hp (by decide +kernel)

/-- The base packet B0 with given first bytes, source, destination and checksum. -/
def b0 (head src dst csum : Nat) : Bytes :=
  octets 4 head ++ octets 6 0x000100004011 ++ octets 2 csum ++ octets 4 src ++ octets 4 dst ++
    octets 8 0x0FA0003500080000

/-- The interface of S0. -/
def if0 : Iface := s0.iface 0

/-- No entry of the interface of S0 holds another address. -/
theorem not_owned (a : Word) (h : a ≠ hostH) : ¬ ∃ e, ownedBy if0 a e := by
  rintro ⟨e, l, r, h1, -, h3, -⟩
  have h1 : [⟨hostH, 24, .valid⟩] = l ++ e :: r := h1
  cases l with
  | nil => cases h1; exact h h3.symm
  | cons x l => simp at h1

/-- The address of S0 is owned and not tentative. -/
theorem local_hostH : localTo if0 hostH :=
  .inl ⟨⟨hostH, 24, .valid⟩, ⟨[], [], rfl, by decide, rfl, by simp⟩, by decide⟩

/-- B0 passes the steps before the destination. -/
theorem b0_wellMade : wellMade if0 (b0 0x4500001C 0xC0000232 0xC0000201 0xF69C) ∧
    wellMade if0 (b0 0x4500001C 0xC0000232 0xC0000202 0xF69B) ∧
    wellMade if0 (b0 0x4500001C 0xC0000232 0xC0000201 0xF79C) := by
  unfold wellMade broadcastOn multicast; decide +kernel

/-- 192.0.2.2 is not this host's. -/
theorem not_local : ¬ localTo if0 0xC0000202 := by
  rintro (⟨e, h, -⟩ | ⟨-, h⟩)
  · exact not_owned _ (by decide) ⟨e, h⟩
  · revert h; unfold broadcastOn multicast; decide +kernel

theorem witness_IprxFirstFailingTestDrops :
    let s := withRegs [0x4000, 28] s0
    let q (h : Nat) := b0 h 0xC0000232 0xC0000201 0xF69C
    s.lock = .held s.tid ∧ (0 : Byte).toNat < s.par.nIf ∧ s.a[0] = some 0x4000 ∧ s.a[1] = some 28 ∧
    memRead (withBytes 0x4000 (q 0x4500001C) s).mem 0x4000 28 = q 0x4500001C ∧
    ((q 0x4500001C).take 19).length < 20 ∧ byteAt (q 0x6500001C) 0 >>> 4 ≠ 4 ∧ ihl (q 0x4400001C) < 5 ∧
    (be16 (q 0x45000013) 2).toNat < headerLen (q 0x45000013) ∧
    ((q 0x4500001C).take 27).length < (be16 (q 0x4500001C) 2).toNat ∧
    broadcastOn if0 (be32 (b0 0x4500001C 0xC00002FF 0xC0000201 0xF5CF) 12) ∧
    multicast (be32 (b0 0x4500001C 0xE0000001 0xC0000201 0xD8CD) 12) ∧
    (∃ e, ownedBy { if0 with addr := [⟨hostH, 24, .tentative⟩] } hostH e ∧ e.status = .tentative) ∧
    (¬ ∃ e, ownedBy if0 0xC0000202 e) ∧ ¬ localTo if0 0xC0000202 ∧ s.par.forwarding = false ∧
    wellMade if0 (b0 0x4500001C 0xC0000232 0xC0000201 0xF79C) ∧ localTo if0 hostH ∧
    checksum s.par ((b0 0x4500001C 0xC0000232 0xC0000201 0xF79C).take 20) ≠ 0 := by
  refine ⟨rfl, by decide +kernel, rfl, rfl, by decide +kernel, by decide +kernel, by decide +kernel,
    by decide +kernel, by decide +kernel, by decide +kernel, ?_, ?_,
    ⟨⟨hostH, 24, .tentative⟩, ⟨[], [], rfl, by decide, rfl, by simp⟩, rfl⟩, not_owned _ (by decide), not_local,
    rfl, b0_wellMade.2.2, local_hostH, by decide +kernel⟩
  · unfold broadcastOn; decide +kernel
  · unfold multicast; decide +kernel

theorem witness_IprxDispatchesAdmitted :
    let s := withRegs [0x4000, 28] s0
    let p := b0 0x4500001C 0xC0000232 0xC0000201 0xF69C
    s.lock = .held s.tid ∧ (0 : Byte).toNat < s.par.nIf ∧ s.a[0] = some 0x4000 ∧ s.a[1] = some 28 ∧
    wellMade if0 p ∧ localTo if0 (be32 p 16) ∧ checksum s.par (p.take (headerLen p)) = 0 ∧
    be16 p 6 &&& 0x3FFF = 0 ∧ be16 (overwrite p 6 [0x20, 0x00]) 6 &&& 0x3FFF ≠ 0 ∧
    checksum s.par ((overwrite (overwrite p 6 [0x20, 0x00]) 10 [0xD6, 0x9C]).take 20) = 0 ∧
    wellMade if0 (b0 0x4500001C 0xC0000232 0xC0000202 0xF69B) ∧ (¬ ∃ e, ownedBy if0 0xC0000202 e) ∧
    ¬ localTo if0 0xC0000202 ∧ { s.par with forwarding := true }.forwarding = true :=
  ⟨rfl, by decide +kernel, rfl, rfl, b0_wellMade.1, local_hostH, by decide +kernel, by decide +kernel,
    by decide +kernel, by decide +kernel, b0_wellMade.2.1, not_owned _ (by decide), not_local, rfl⟩

theorem witness_IptxSendsOrFragments :
    let s := withRegs [0x0800, 0, 65516, hostH, peerR, 1, 0x4011] s0
    s.lock = .held s.tid ∧ (0 : Byte).toNat < s.par.nIf ∧ s.a[0] = some 0x0800 ∧ s.a[6] = some 0x4011 ∧
    (State.reset.iface 0).mtu = 0 ∧ (s.iface 0).mtu ≠ 0 ∧
    (∀ n ≤ 65516, (clipped (memRead s.mem 0 n) 0 65516).length = n) ∧
    20 + 1480 = (s.iface 0).mtu.toNat ∧ (s.iface 0).mtu.toNat < 20 + 1481 ∧ 65535 < 20 + 65516 ∧
    chunkBytes (withBytes 0x0800 [0, 0, 0, 0, 0, 0, 0x05, 0xC9] s).mem 0x0800 1 =
      memRead (withBytes 0x0800 [0, 0, 0, 0, 0, 0, 0x05, 0xC9] s).mem 0 1481 ++ [] := by
  refine ⟨rfl, by decide +kernel, rfl, rfl, rfl, by decide +kernel, fun n h => ?_, by decide +kernel,
    by decide +kernel, by decide, by decide +kernel⟩
  simp only [clipped, List.length_drop, List.length_take, memRead_length]
  have : (0 : Word).toNat = 0 := rfl
  have : (65516 : Word).toNat = 65516 := rfl
  omega

theorem witness_IpfragCoversPayload :
    let s := withIface (fun f => { f with mtu := 28 }) s0
    (0 : Byte).toNat < s.par.nIf ∧ (withIface (fun f => { f with mtu := 27 }) s0).ifs.map (·.mtu.toNat) = [27] ∧
    28 ≤ (s.iface 0).mtu.toNat ∧ pieces 8 (List.replicate 17 1) = 3 ∧
    s.link = List.replicate 3 true ++ [] ∧ 1 < pieces 8 (List.replicate 17 1) ∧
    { s with link := [true, false] }.link = List.replicate 1 true ++ false :: [] := by decide +kernel

theorem witness_IpdemuxSelectsHandler :
    (0 : Byte).toNat < s0.par.nIf ∧
    (byteAt (b0 0x4500001C 0 0 0) 9, UpKind.udp) ∈ [((17 : Byte), UpKind.udp), (1, .icmp), (2, .igmp)] ∧
    (47 : Byte) ∉ [(1 : Byte), 2, 6, 17] ∧
    byteAt (octets 24 0x450000180001000040060000C0000232C000020101020304) 9 = 6 := by decide +kernel

/-- The fragments X, Y, Z of 95_test_vectors.md section 4. -/
def fragX : Bytes := octets 28 0x4500001C004220004011D65BC0000232C00002010FA0003500140000
def fragY : Bytes := octets 28 0x4500001C004220014011D65AC0000232C00002016162636465666768
def fragZ : Bytes := octets 24 0x45000018004200024011F65DC0000232C0000201696A6B6C

theorem witness_ReasmMergesOrCompletes :
    let g : Slot := ⟨true, be32 fragY 12, be32 fragY 16, be16 fragY 4, byteAt fragY 9, 5, 0, [], 0, [], [⟨0, .inf⟩]⟩
    let big := overwrite fragX 6 [0x20, 0xBB]
    (0 : Byte).toNat < s0.par.nIf ∧
    (moreFragments (fragX.take 27) = true ∧ ((fragX.take 27).length - headerLen (fragX.take 27)) % 8 ≠ 0) ∧
    moreFragments fragZ = false ∧ (fragY.length - headerLen fragY) % 8 = 0 ∧
    (∀ x ∈ [{ almostWhole with id := 0x43 }, { almostWhole with proto := 1 }], x.inUse = true ∧ ¬ keyIs x fragY) ∧
    slotFor [almostWhole, Slot.reset] 5 fragY 0 almostWhole ∧ slotFor [Slot.reset, Slot.reset] 5 fragY 0 g ∧
    (s0.par.reasmMaxPayload < dataLast big ∧ moreFragments big = true) ∧ dataLast fragY ≤ s0.par.reasmMaxPayload ∧
    almostWhole.data.length = almostWhole.dataLen ∧ g.data.length = g.dataLen ∧ headerLen fragY ≤ fragY.length ∧
    (mergedInto fragY g).holes ≠ [] ∧ (mergedInto fragY almostWhole).holes = [] ∧
    20 ≤ (mergedInto fragY almostWhole).hdr.length := by
  refine ⟨by decide +kernel, by decide +kernel, by decide +kernel, by decide +kernel, ?_, .inl ⟨?_, ?_, rfl⟩,
    .inr ⟨?_, ?_, ?_, rfl⟩, by decide +kernel, by decide +kernel, by decide +kernel, rfl, by decide +kernel,
    by decide +kernel, by decide +kernel, by decide +kernel⟩
  · unfold keyIs; decide +kernel
  · unfold keyIs; decide +kernel
  · intro m hm; omega
  · rintro m ⟨h1, h2, -⟩
    have h1 : m < 2 := h1
    interval_cases m <;> exact absurd h2 (by decide +kernel)
  · decide +kernel
  · intro m hm; omega

theorem witness_HoleWalkKeepsMissingBytes :
    8 ≤ 8 ∧ holesInOrder [⟨0, .fin 8⟩, ⟨8, .fin 16⟩, ⟨24, .inf⟩] := by
  refine ⟨le_refl 8, ?_, ?_⟩
  · intro h hh
    rcases List.mem_cons.mp hh with rfl | hh
    · exact (by decide : 0 < 8)
    rcases List.mem_cons.mp hh with rfl | hh
    · exact (by decide : 8 < 16)
    rcases List.mem_singleton.mp hh with rfl
    trivial
  · simp [List.pairwise_cons]

theorem witness_ReassemblyInAnyOrderRestoresPayload :
    let p := octets 20 0x0FA00035001400006162636465666768696A6B6C
    p ≠ [] ∧ ∀ d ∈ [fragZ, fragX, fragX, fragY], fragmentOf (fragX.take 20) p d := by
  refine ⟨by decide +kernel, ?_⟩
  unfold fragmentOf; decide +kernel

/-- What `shown` tells of a step. -/
theorem shown_next {α : Type} {o : Host.Outcome State Fault Refusal} {f : State → α} {v : α}
    (h : shown o f = some v) : ∃ t, o = .next t ∧ f t = v := by
  cases o with
  | next t => exact ⟨t, rfl, Option.some.inj h⟩
  | fault _ => cases h
  | refused _ => cases h

/-- A bare acknowledgement of the connection of K1, with a right checksum and with a wrong one. -/
def ackBytes (sum : Nat) : Bytes := octets 20 (0x0FA0005000002329000013895010200000000000 + sum * 2 ^ 16)

theorem witness_TcprxValidatesThenDispatches :
    (0 : Byte).toNat < table.par.nIf ∧ table.par.legal = true ∧ sized table ∧ ((ackBytes 0).take 19).length < 20 ∧
    (byteAt (overwrite (ackBytes 0) 12 [0x40]) 12 >>> 4).toNat < 5 ∧
    (ackBytes 0).length < (byteAt (overwrite (ackBytes 0) 12 [0x60]) 12 >>> 4).toNat * 4 ∧
    segmentSum table.par peerR hostH (ackBytes 0x44FD) ≠ 0 ∧ segmentSum table.par peerR hostH (ackBytes 0xC4FE) = 0 ∧
    (parseSegment (ackBytes 0xC4FE)).srcPort = 4000 ∧ (parseSegment (ackBytes 0xC4FE)).dstPort = 80 ∧
    tcpMatch table 0 peerR hostH 4000 80 1 ∧ (∀ n, ¬ tcpMatch table 0 peerR hostH 4000 81 n) ∧
    segmentSum table.par peerR hostH (overwrite (ackBytes 0xC4FD) 3 [81]) = 0 := by
  refine ⟨by decide +kernel, by decide +kernel, ?_, by decide +kernel, by decide +kernel, by decide +kernel,
    by decide +kernel, by decide +kernel, by decide +kernel, by decide +kernel,
    witness_LookupFindsTheMatch.2.2.2.1, witness_LookupFindsTheMatch.2.2.2.2.2.1, by decide +kernel⟩
  unfold sized; decide +kernel

theorem witness_ParseReadsSegment :
    20 ≤ (ackBytes 0).length ∧ (3 : Byte) ≠ 0 ∧ (3 : Byte) ≠ 1 ∧
    ((1 : Byte).toNat < 2 ∨ ([] : Bytes).length + 2 < (3 : Byte).toNat) ∧ 2 ≤ (3 : Byte).toNat ∧
    (3 : Byte).toNat ≤ ([7] : Bytes).length + 2 ∧ ¬ ((3 : Byte) = 2 ∧ (3 : Byte) = 4) := by decide +kernel

/-- A segment of the connection of K1. -/
def piece (flags : BitVec 6) (seq ack : Word) (pay : Bytes) : Segment := ⟨4000, 80, seq, ack, flags, 8192, none, pay⟩

theorem witness_ClosedAndListenResults :
    let s := withK { listener with synq := [⟨0, .v4 peerR, .v4 hostH, 4000, 1000, 1460⟩] } s0
    let f := withK { listener with synqMax := 1, synq := [⟨0, .v4 peerR, .v4 hostH, 4001, 1000, 1460⟩] } s0
    indexed s 1 0 ∧ s.par.legal = true ∧ has (piece flagRST 1 1 []) flagRST = true ∧
    has (piece flagACK 1 1 []) flagRST = false ∧ has (piece flagACK 1 1 []) flagACK = true ∧
    has (piece 0 1 1 []) flagSYN = false ∧ has (piece flagSYN 1 1 []) flagACK = false ∧
    has (piece flagSYN 1 1 []) flagSYN = true ∧
    (∃ x ∈ (s.sock 1).synq, x.srcAddr = .v4 peerR ∧ x.destAddr = .v4 hostH ∧ x.srcPort = 4000) ∧
    (s.sock 1).synq.length < (s.sock 1).synqMax.toNat ∧
    (∀ x ∈ (f.sock 1).synq, ¬ (x.srcAddr = .v4 peerR ∧ x.destAddr = .v4 hostH ∧ x.srcPort = 4000)) ∧
    (f.sock 1).synqMax.toNat ≤ (f.sock 1).synq.length := by
  dsimp only; unfold indexed sized; decide +kernel

theorem witness_SynSentResults :
    let s := withK { k1 .synSent with sndUna := 5000 } s0
    indexed s 1 0 ∧ s.par.legal = true ∧ (s.sock 1).sndNxt = 5001 ∧
    (∀ f ∈ [flagRST ||| flagACK, flagACK], has (piece f 9000 5000 []) flagACK = true ∧ (5000 : Word) ≠ 5001) ∧
    has (piece flagRST 9000 5001 []) flagRST = true ∧ has (piece flagACK 9000 5001 []) flagSYN = false ∧
    has (piece (flagSYN ||| flagACK) 9000 5001 []) flagSYN = true ∧
    has (piece (flagSYN ||| flagACK) 9000 5001 []) flagRST = false ∧
    has (piece flagSYN 9000 0 []) flagACK = false ∧ has (piece flagSYN 9000 0 []) flagSYN = true := by
  dsimp only; unfold indexed sized; decide +kernel

/-- The first and the last sequence number of the window, and the one after it. -/
theorem witness_SynchronizedChecksInOrder :
    let k := (withK (k1 .established) s0).sock 1
    indexed (withK (k1 .established) s0) 1 0 ∧
    ¬ inWindow k (piece flagACK 11049 5001 []) ∧ ¬ inWindow k (piece flagRST 9000 5001 []) ∧
    inWindow k (piece flagRST 9001 5001 []) ∧ inWindow k (piece flagSYN 11048 5001 []) ∧
    has (piece flagSYN 11048 5001 []) flagRST = false ∧ has (piece flagSYN 11048 5001 []) flagSYN = true ∧
    passes k (piece 0 9001 5001 [7]) ∧ has (piece 0 9001 5001 [7]) flagACK = false ∧
    passes k (piece flagACK 9000 5002 [7, 8]) ∧ seqGT (piece flagACK 9000 5002 [7, 8]).ack k.sndNxt = true ∧
    Instr.tcpsClosing 1 0 1 2 bareSegment ∈ synchronizedOps 1 0 1 2 bareSegment ∧
    Instr.tcpsFinWait2 1 0 1 2 bareSegment ∈ dataOps 1 0 1 2 bareSegment := by
  dsimp only; unfold indexed sized passes inWindow; decide +kernel

theorem witness_SynRcvdFallsThrough :
    let s := withK { k1 .synRcvd with sndUna := 5000 } s0
    indexed s 1 0 ∧ (s.sock 1).sndNxt = 5001 ∧ has (piece flagACK 9001 5001 []) flagACK = true ∧
    passes (s.sock 1) (piece flagACK 9001 5001 []) ∧ passes (s.sock 1) (piece flagACK 9001 5000 []) := by
  dsimp only; unfold indexed sized passes inWindow; decide +kernel

theorem witness_PureAckResults :
    let s := withK { k1 .finWait1 with sndNxt := 5002 } s0
    indexed s 1 0 ∧ (s.sock 1).ackPending = false ∧ (s.sock 1).sndNxt = 5002 ∧
    has (piece flagACK 9001 5000 []) flagFIN = false ∧ passesAck (s.sock 1) (piece flagACK 9001 5000 []) ∧
    passesAck (s.sock 1) (piece flagACK 9001 5001 []) ∧ passesAck (s.sock 1) (piece flagACK 9001 5002 []) := by
  dsimp only; unfold indexed sized passesAck passes inWindow; decide +kernel

/-- What every entry of a list meets, entry by entry. -/
theorem each {α : Type} {P : α → Prop} [DecidablePred P] (l : List α) (h : l.all (fun x => decide (P x)) = true) :
    ∀ x ∈ l, P x := by simpa using h

/-- K1 in FIN-WAIT-1 with a window of four, the last two bytes of it held. -/
def gapK : Sock := { k1 .finWait1 with sndNxt := 5002, rcvWnd := 4, ooo := [(9003, 3), (9004, 4)] }

/-- The operands exist, and what is held lies in the window, behind a gap. -/
theorem gapK_ok : indexed (withK gapK s0) 1 0 ∧ (withK gapK s0).sock 1 = gapK ∧ oooInv s0.par gapK ∧
    (∀ x ∈ gapK.ooo, x.1 ≠ gapK.rcvNxt) ∧ waitsFrom gapK 9003 [3, 4] ∧ waitsFrom gapK 9005 [] := by
  refine ⟨?_, by decide +kernel, ⟨by decide +kernel, by decide +kernel, each _ (by decide +kernel)⟩,
    each _ (by decide +kernel), ⟨by decide +kernel, each _ (by decide +kernel)⟩,
    ⟨by decide +kernel, each _ (by decide +kernel)⟩⟩
  unfold indexed sized; decide +kernel

/-- A payload of which one byte is old and two fill the gap before what waits, up to the end of the window; one that is
cut at the end of the window, with a FIN behind it; each with an acknowledgement of our FIN and without. -/
theorem witness_InOrderDataIsDelivered :
    (passesAck gapK (piece flagACK 9000 5001 [0, 1, 2]) ∧ passesAck gapK (piece flagACK 9000 gapK.sndNxt [0, 1, 2]) ∧
      passesAck gapK (piece (flagFIN ||| flagACK) 9001 5001 [1, 2, 3, 4, 5])) ∧
    (segmentOk (piece flagACK 9000 5001 [0, 1, 2]) = true ∧ (gapK.rcvNxt - 9000).toNat = 1 ∧
      has (piece flagACK 9000 5001 [0, 1, 2]) flagFIN = false ∧
      freshBytes gapK (piece flagACK 9000 5001 [0, 1, 2]) = [1, 2]) ∧
    (freshBytes gapK (piece (flagFIN ||| flagACK) 9001 5001 [1, 2, 3, 4, 5]) = [1, 2, 3, 4] ∧ 0 + 4 + 0 ≠ [1, 2, 3, 4, 5].length) ∧
    (deferAnswer (withK gapK s0) = false ∧ deferAnswer { withK gapK s0 with deferIn := [true] } = true) := by
  refine ⟨?_, ?_, ?_, ?_⟩
  · unfold passesAck passes inWindow; decide +kernel
  · decide +kernel
  · decide +kernel
  · decide +kernel

/-- A gap of one byte, and one that leaves a single byte of the window, behind which the payload is cut. -/
theorem witness_OutOfOrderDataWaits :
    (passesAck gapK (piece flagACK 9002 5001 [2, 3]) ∧ passesAck gapK (piece (flagFIN ||| flagACK) 9004 5002 [4, 5])) ∧
    (segmentOk (piece flagACK 9002 5001 [2, 3]) = true ∧ ((9002 : Word) - gapK.rcvNxt).toNat = 1 ∧
      ((9004 : Word) - gapK.rcvNxt).toNat = 3 ∧ 3 < gapK.rcvWnd.toNat) ∧
    (s0.par.tcpOoo = .buffer ∧ { s0.par with tcpOoo := .drop }.tcpOoo = .drop) := by
  refine ⟨?_, ?_, ?_⟩
  · unfold passesAck passes inWindow; decide +kernel
  · decide +kernel
  · decide +kernel

/-- A FIN alone, one behind payload that fills the window, and one behind payload that is all old. -/
theorem witness_FinMovesTheRecordOn :
    let k : Sock := { gapK with ooo := [] }
    let g (q a : Word) (pay : Bytes) := piece (flagFIN ||| flagACK) q a pay
    (passesAck k (g 9001 5001 []) ∧ passesAck k (g 9001 k.sndNxt []) ∧ passesAck k (g 9001 5001 [1, 2, 3, 4]) ∧
      passesAck k (g 8999 5001 [7, 8])) ∧
    (has (g 9001 5001 []) flagFIN = true ∧ segmentOk (g 9001 5001 []) = true ∧ (k.rcvNxt - 8999).toNat = 2) ∧
    (waitsFrom k 9001 [] ∧ waitsFrom k 9005 [] ∧ oooInv s0.par k) := by
  refine ⟨?_, ?_, ⟨by decide +kernel, each _ rfl⟩, ⟨by decide +kernel, each _ rfl⟩, fun _ => rfl, .nil, each _ rfl⟩
  · unfold passesAck passes inWindow; decide +kernel
  · decide +kernel

/-- K1 in CLOSING. -/
def closingK : Sock := { k1 .closing with sndNxt := 5002, rcvNxt := 9002 }

theorem witness_ClosingStatesResults :
    (indexed (withK closingK s0) 1 0 ∧ (withK closingK s0).sock 1 = closingK ∧ closingK.sndNxt = 5002) ∧
    (passesAck closingK (piece flagACK 9002 5001 []) ∧ passesAck closingK (piece flagACK 9002 5002 []) ∧
      passes closingK (piece flagACK 9002 5003 []) ∧ passes closingK (piece 0 9002 5002 [7])) ∧
    (¬ passes closingK (piece flagACK 9001 5002 []) ∧ ¬ passesAck closingK (piece flagACK 9002 5003 []) ∧
      ¬ passesAck closingK (piece 0 9002 5002 [7])) ∧
    (has (piece flagRST 0 0 []) flagRST = true ∧ has (piece flagFIN 9000 0 [7]) flagFIN = true ∧
      (9000 : Word) + BitVec.ofNat 32 ([7] : Bytes).length = closingK.rcvNxt - 1) := by
  refine ⟨?_, ?_, ?_, ?_⟩
  · unfold indexed sized; decide +kernel
  · unfold passesAck passes inWindow; decide +kernel
  · unfold passesAck passes inWindow; decide +kernel
  · decide +kernel

theorem witness_StateOperationsFrame :
    s0.txq = [] ∧ (∃ t, exec (.tcpsClosed 1 0 peerR hostH (piece flagACK 1 1 [])) s0 = .next t ∧ t.txq.length = 1) ∧
    Instr.tcpsClosed 1 0 1 2 bareSegment ∈ stateOps 1 0 1 2 bareSegment ∧
    ∀ f ∈ s0.ifs, f.mtu = 0 ∨ 68 ≤ f.mtu.toNat :=
  ⟨rfl, shown_next (f := fun t => t.txq.length) (by decide +kernel), by decide +kernel, by decide +kernel⟩

theorem witness_OnlyDropsAreCounted :
    s0.cnt[0x7E] = 0 ∧ ∃ t, exec (.seta 9 0) s0 = .next t ∧ t.cnt[0x7E] = 1 :=
  ⟨by decide +kernel, shown_next (f := fun t => t.cnt[0x7E]) (by decide +kernel)⟩

theorem witness_QueuesShrinkOnlyByDrain :
    (∃ t, exec (.ipdemux 0 (octets 20 0x450000140001000040010000C0000232C0000201)) s0 = .next t ∧
      t.upq.length = 1) ∧
    ∀ q, Instr.ipdemux 0 (octets 20 0x450000140001000040010000C0000232C0000201) ≠ .drain q :=
  ⟨shown_next (f := fun t => t.upq.length) (by decide +kernel), fun _ h => nomatch h⟩

theorem witness_StepKeepsMemoryForm :
    Memory.wf s0.mem = true ∧ ∃ t, step (presenting [.store 0xFFFFFFFF [1, 2]]) = .next t ∧ memGet t.mem 0 = 2 :=
  ⟨by decide +kernel, shown_next (f := fun t => memGet t.mem 0) (by decide +kernel)⟩

/-- `S0` with a first fragment in memory, and the command that admits it. -/
def fragmentComes : State :=
  { withBytes 0x4000 fragX (withRegs [0x4000, 28]
      (withIface (fun f => { f with addr := ⟨hostH, 24, .valid⟩ :: List.replicate (Params.sample.nAddr - 1) ⟨0, 0, .invalid⟩ }) s0)) with
    port := [.command 0x10000000 1 0] }

theorem witness_StepKeepsSlotInvariants :
    hostOnly fragmentComes ∧ tablesInv fragmentComes ∧
    ∃ t, step fragmentComes = .next t ∧ (t.slot 0 0).inUse = true := by
  refine ⟨?_, ?_, shown_next (f := fun t => (t.slot 0 0).inUse) (by decide +kernel)⟩
  · unfold hostOnly; decide +kernel
  · unfold tablesInv sized ifaceInv slotInv; decide +kernel

/-- The listener of `S0` with its backlog at one, and the command that accepts. -/
def acceptComes : State :=
  { withRegs [0, 7000] (withL asked s0) with port := [.command 0x64000000 1 0] }

/-- A free record is sound. -/
theorem free_sockInv : sockInv Params.sample Sock.reset := by
  refine ⟨fun _ => rfl, fun _ => rfl, ?_, ?_, ?_, ?_, ?_, ?_, ?_, ?_, ?_, ?_⟩
  · exact fun h => nomatch h
  · exact fun _ => ⟨rfl, rfl⟩
  · decide +kernel
  · decide +kernel
  · exact fun e h => nomatch h
  · decide +kernel
  · exact fun _ => rfl
  · exact ⟨fun _ => rfl, .nil, fun x h => nomatch h⟩
  · exact fun _ x h => nomatch h
  · decide +kernel

/-- The listener with one request is sound. -/
theorem asked_sockInv : sockInv Params.sample asked := by
  refine ⟨(fun h => nomatch h), fun h => absurd rfl h, ?_, ?_, ?_, ?_, ?_, ?_, ?_, ?_, ?_, ?_⟩
  · exact fun _ => by decide +kernel
  · exact fun h => absurd rfl h
  · decide +kernel
  · decide +kernel
  · decide +kernel
  · decide +kernel
  · exact fun _ => rfl
  · exact ⟨fun _ => rfl, .nil, fun x h => nomatch h⟩
  · exact fun _ x h => nomatch h
  · decide +kernel

theorem acceptComes_socksInv : socksInv acceptComes := by
  intro k hk
  rcases List.mem_cons.mp (show k ∈ asked :: List.replicate 7 Sock.reset from hk) with rfl | h
  · exact asked_sockInv
  · exact (List.mem_replicate.mp h).2 ▸ free_sockInv

theorem witness_StepKeepsRecordInvariants :
    hostOnly acceptComes ∧ acceptComes.par.legal = true ∧ socksInv acceptComes ∧
    ∃ t, step acceptComes = .next t ∧ (t.sock 1).state = .synRcvd := by
  refine ⟨?_, by decide +kernel, acceptComes_socksInv,
    shown_next (f := fun t => (t.sock 1).state) (by decide +kernel)⟩
  unfold hostOnly; decide +kernel

theorem witness_StateChangesAreListed :
    hostOnly acceptComes ∧ acceptComes.par.legal = true ∧ socksInv acceptComes ∧
    ∃ t, step acceptComes = .next t ∧ (t.sock 1).state = .synRcvd := by
  refine ⟨?_, by decide +kernel, acceptComes_socksInv,
    shown_next (f := fun t => (t.sock 1).state) (by decide +kernel)⟩
  unfold hostOnly; decide +kernel

end Sys2Proof.Tests
end

section
/-! Properties of a state that survive every operation. A property that the few primitive updates keep is kept by
every operation built from them; the walks over the operations are made here, once. -/

namespace Sys2Proof.Proofs

open Machine

/-- `P` survives the updates that touch neither a connection record nor an interface table: results, counters, reports,
hand-offs, the answers consumed, a packet handed to the link and the identification counter it takes. -/
structure Ordinary (P : State → Prop) : Prop where
  setR0 : ∀ {t}, P t → ∀ v, P (setR0 t v)
  setOut : ∀ {t}, P t → ∀ o, P (setOut t o)
  count : ∀ {t}, P t → ∀ c, P (count t c)
  done : ∀ {t}, P t → ∀ c, P (done t c)
  raiseIcmp : ∀ {t}, P t → ∀ i y c p b, P (raiseIcmp t i y c p b)
  signal : ∀ {t}, P t → ∀ i e, P (signal t i e)
  pushUp : ∀ {t}, P t → ∀ e, P (pushUp t e)
  advanceId : ∀ {t}, P t → ∀ i, P (advanceId t i)
  emitState : ∀ {t}, P t → ∀ e, P (emitState t e)
  rtoAsked : ∀ {t}, P t → P (rtoAsked t)
  deferAsked : ∀ {t}, P t → P (deferAsked t)

/-- `P` survives a write of any connection record too. -/
structure Records (P : State → Prop) : Prop extends Ordinary P where
  setSock : ∀ {t}, P t → ∀ i k, P (setSock t i k)

/-- `P` survives a write of any interface record too. -/
structure Closed (P : State → Prop) : Prop extends Records P where
  setIface : ∀ {t}, P t → ∀ i f, P (setIface t i f)

/-! The send path and the reports. -/

section ordinary
variable {P : State → Prop} (h : Ordinary P) {t : State} (ht : P t)
include h ht

theorem Ordinary.drop (c : Cause) : P (drop t c) := h.count (h.done ht c) c

theorem Ordinary.fragmentLoop (g : Datagram) (m fuel off : Nat) (pay : Bytes) :
    P (fragmentLoop g m fuel off pay t) := by
  induction fuel generalizing off pay t with
  | zero => exact h.done ht _
  | succ fuel ih =>
    cases pay with
    | nil => exact h.done ht _
    | cons b rest =>
      unfold Machine.fragmentLoop
      split
      · exact ih (h.setR0 (h.emitState ht _) _) _ _
      · exact h.drop (h.emitState ht _) _

theorem Ordinary.sendFragments (g : Datagram) (pay : Bytes) : P (sendFragments g pay t) := by
  unfold Machine.sendFragments
  dsimp only
  split
  · exact h.drop (h.setR0 ht 0) _
  · exact h.fragmentLoop (h.setR0 ht 0) ..

theorem Ordinary.sendIp (ifx : Byte) (src dst : Word) (proto ttl tos : Byte) (pay : Bytes) :
    P (sendIp ifx src dst proto ttl tos pay t) := by
  unfold Machine.sendIp
  dsimp only
  split
  · exact h.drop (h.setR0 ht 0) _
  · split
    · exact h.drop (h.setR0 ht 0) _
    · split
      · split
        · exact h.done (h.setR0 (h.emitState (h.advanceId ht _) _) 1) _
        · exact h.drop (h.setR0 (h.emitState (h.advanceId ht _) _) 0) _
      · exact h.sendFragments (h.advanceId ht _) ..

theorem Ordinary.sendSegment (i : Nat) (f : BitVec 6) (q : Word) : P (sendSegment i f q t) := h.sendIp ht ..

theorem Ordinary.sendAck (i : Nat) : P (sendAck i t) := h.sendSegment ht ..

theorem Ordinary.sendReset (ifx : Byte) (src dst : Word) (seg : Segment) : P (sendReset ifx src dst seg t) :=
  h.sendIp ht ..

theorem Ordinary.lookupEnd (o : Option Nat) : P (lookupEnd t o) := by
  unfold Machine.lookupEnd
  split
  · exact h.done (h.setR0 ht _) _
  · exact h.drop (h.setR0 ht _) _

theorem Ordinary.handUp (k : UpKind) (ifx : Byte) (d : Bytes) : P (handUp k ifx d t) :=
  h.done (h.pushUp ht _) _

theorem Ordinary.tcpClosed (ifx : Byte) (src dst : Word) (seg : Segment) : P (tcpClosed ifx src dst seg t) := by
  unfold Machine.tcpClosed
  split
  · exact h.drop ht _
  · exact h.drop (h.sendReset ht ..) _

/-- TCPRX, as far as the state operation it dispatches to keeps `P`. -/
theorem Ordinary.receiveTcp (hd : ∀ {u}, P u → ∀ i ifx src dst seg, P (tcpDispatch i ifx src dst seg u)) (ifx : Byte)
    (src dst : Word) (seg : Bytes) : P (receiveTcp ifx src dst seg t) := by
  unfold Machine.receiveTcp
  have h0 := h.setR0 ht 0xFFFFFFFF#32
  dsimp only
  split
  · exact h.drop h0 _
  · split
    · exact h.drop h0 _
    · split
      · exact h.drop h0 _
      · split
        · exact h.lookupEnd h0 _
        · exact h.setR0 (hd (h.lookupEnd h0 _) ..) _

/-- The sweep of TCPTICK, as far as its work on one record keeps `P`. -/
theorem Ordinary.tcpTick (hk : ∀ {u}, P u → ∀ i, P (tickSock i u)) : P (tcpTick t) := by
  have sweep (n : Nat) : ∀ i c u, P u → P (tickSocks n i c u).1 := by
    induction n with
    | zero => exact fun _ _ _ hu => hu
    | succ n ih => exact fun i c u hu => ih _ _ _ (hk hu i)
  exact h.done (h.setR0 (sweep _ _ _ _ ht) _) _

/-- Delivery of a datagram, as far as TCPRX keeps `P`. -/
theorem Ordinary.demux (hr : ∀ {u}, P u → ∀ ifx src dst seg, P (Machine.receiveTcp ifx src dst seg u)) (ifx : Byte)
    (d : Bytes) : P (demux ifx d t) := by
  have tcp : P (demuxTcp ifx d t) := by
    unfold demuxTcp
    dsimp only
    split
    · exact h.raiseIcmp (hr ht ..) ..
    · exact hr ht ..
  unfold Machine.demux
  split
  · exact tcp
  · split
    · exact h.handUp ht ..
    · split
      · exact h.handUp ht ..
      · split
        · exact h.handUp ht ..
        · exact h.drop (h.raiseIcmp ht ..) _

/-- The admission pipeline, as far as TCPRX and the reassembly of an admitted fragment keep `P`. The length that
steps 1 to 4 test is what the reassembly engine may rely on (41_ip_admission.md R152 to R154). -/
theorem Ordinary.admitPacket (hr : ∀ {u}, P u → ∀ ifx src dst seg, P (Machine.receiveTcp ifx src dst seg u))
    (hf : ∀ {u}, P u → ∀ ifx d, headerLen d ≤ d.length → P (reassemble ifx d u)) (ifx : Byte) (p : Bytes) :
    P (admitPacket ifx p t) := by
  have whole (d : Bytes) (hd : headerLen d ≤ d.length) : P (admitWhole ifx d t) := by
    unfold admitWhole
    split
    · exact h.drop ht _
    · split
      · exact hf ht ifx d hd
      · exact h.demux ht hr ..
  have trimmed (d : Bytes) (hd : headerLen d ≤ d.length) : P (admitTrimmed ifx d t) := by
    unfold admitTrimmed
    dsimp only
    split
    · exact h.drop ht _
    · split
      · exact whole d hd
      · exact h.drop ht _
      · exact h.done (h.pushUp ht _) _
      · exact h.drop ht _
  unfold Machine.admitPacket
  split
  · exact h.drop ht _
  · split
    · exact h.drop ht _
    · split
      · exact h.drop ht _
      · split
        · exact h.drop ht _
        · rename_i hihl htot
          split
          · exact h.drop ht _
          · refine trimmed _ ?_
            have same : headerLen (p.take (totalLength p)) = headerLen p := by
              have pos : 0 < totalLength p := by unfold headerLen at htot; omega
              simp [headerLen, ihl, byteAt, pos]
            rw [same, List.length_take]
            omega

end ordinary

/-! The TCP state machine and the socket operations. -/

section records
variable {P : State → Prop} (h : Records P) {t : State} (ht : P t)
include h ht

theorem Records.updSock (i : Nat) (g : Sock → Sock) : P (updSock t i g) := h.setSock ht ..

theorem Records.recycle (i : Nat) : P (recycle t i) := h.setSock ht ..

theorem Records.enterClosed (i : Nat) (r : Bool) : P (enterClosed i r t) := by
  unfold Machine.enterClosed
  split
  · exact h.updSock ht ..
  · exact h.recycle ht _

theorem Records.enterTimeWait (i : Nat) : P (enterTimeWait i t) := h.updSock ht ..

end records

/-- The state of a flow, whichever way it goes, has `P`. -/
theorem andThen_state {P : State → Prop} {f : Flow} {k : State → Flow} (hf : P f.state)
    (hk : ∀ u, P u → P (k u).state) : P (f.andThen k).state := by
  cases f with
  | go u => exact hk u hf
  | ended u => exact hf

section records
variable {P : State → Prop} (h : Records P) {t : State} (ht : P t) (i : Nat) (ifx : Byte) (src dst : Word)
  (seg : Segment)
include h ht

theorem Records.seqCheck : P (seqCheck i seg t).state := by
  unfold Machine.seqCheck
  split
  · exact ht
  · refine h.drop ?_ _
    split
    · exact ht
    · exact h.sendAck ht i

theorem Records.rstCheck : P (rstCheck i seg t).state := by
  unfold Machine.rstCheck
  split
  · exact h.done (h.enterClosed ht i true) _
  · exact ht

theorem Records.synCheck : P (synCheck i ifx src dst seg t).state := by
  unfold Machine.synCheck
  split
  · refine h.drop ?_ _
    split
    · exact h.enterClosed (h.sendReset ht ..) i true
    · exact h.sendReset ht ..
  · exact ht

theorem Records.ackProc : P (ackProc i seg t).state := by
  unfold Machine.ackProc
  split
  · split
    · exact h.drop (h.sendAck ht i) _
    · split
      · exact h.updSock ht ..
      · exact ht
  · exact h.drop ht _

theorem Records.std3 : P (std3 i ifx src dst seg t).state :=
  andThen_state (andThen_state (h.seqCheck ht i seg) fun _ hu => h.rstCheck hu i seg)
    fun _ hu => h.synCheck hu i ifx src dst seg

theorem Records.std4 : P (std4 i ifx src dst seg t).state :=
  andThen_state (h.std3 ht i ifx src dst seg) fun _ hu => h.ackProc hu i seg

theorem Records.deliver : P (deliver i seg t) := by
  unfold Machine.deliver
  split
  · exact ht
  · dsimp only
    split
    · exact h.setSock ht ..
    · exact h.signal (h.setSock ht ..) ..

theorem Records.finHandle (post : TcpState) : P (finHandle i seg post t) := by
  unfold Machine.finHandle
  split
  · have hu := h.updSock (h.sendAck (h.updSock ht i fun k => { k with rcvNxt := k.rcvNxt + 1 }) i) i
      fun k => { k with ackPending := false }
    dsimp only
    split
    · exact h.enterTimeWait hu i
    · exact h.updSock hu ..
  · exact ht

omit seg ifx src dst in
theorem Records.ackFlush : P (ackFlush i t) := by
  unfold Machine.ackFlush
  split
  · split
    · exact h.deferAsked ht
    · exact h.updSock (h.sendAck (h.deferAsked ht) i) ..
  · exact ht

theorem Records.tcpListen : P (tcpListen i ifx src dst seg t) := by
  unfold Machine.tcpListen
  dsimp only
  split
  · exact h.drop ht _
  · split
    · exact h.drop (h.sendReset ht ..) _
    · split
      · exact h.drop ht _
      · split
        · exact h.drop ht _
        · refine h.done (h.signal ?_ _ _) _
          split
          · exact h.count (h.updSock ht ..) _
          · exact h.updSock ht ..

theorem Records.tcpSynSent : P (tcpSynSent i ifx src dst seg t) := by
  unfold Machine.tcpSynSent
  dsimp only
  split
  · refine h.drop ?_ _
    split
    · exact ht
    · exact h.sendReset ht ..
  · split
    · split
      · exact h.done (h.enterClosed ht i true) _
      · exact h.drop ht _
    · split
      · exact h.drop ht _
      · have hu := h.updSock (h.rtoAsked ht) i (synRecord t.par seg (rtoAnswer t))
        split
        · exact h.done (h.sendAck (h.updSock hu ..) i) _
        · exact h.done (h.sendSegment (h.updSock hu ..) ..) _

theorem Records.tcpEstablished : P (tcpEstablished i ifx src dst seg t) :=
  andThen_state (h.std4 ht i ifx src dst seg) fun _ hu =>
    h.done (h.ackFlush (h.finHandle (h.deliver hu i seg) i seg _) i) _

theorem Records.tcpSynRcvd : P (tcpSynRcvd i ifx src dst seg t) := by
  refine andThen_state (h.std3 ht i ifx src dst seg) fun u hu => ?_
  split
  · exact h.drop hu _
  · split
    · exact h.drop (h.sendReset hu ..) _
    · exact h.tcpEstablished (h.updSock hu ..) i ifx src dst seg

theorem Records.tcpCloseWait : P (tcpCloseWait i ifx src dst seg t) :=
  andThen_state (h.std4 ht i ifx src dst seg) fun _ hu => h.done (h.ackFlush (h.deliver hu i seg) i) _

theorem Records.tcpLastAck : P (tcpLastAck i ifx src dst seg t) := by
  refine andThen_state (h.std3 ht i ifx src dst seg) fun u hu => ?_
  split
  · exact h.done (h.enterClosed hu i false) _
  · exact h.drop hu _

theorem Records.tcpFinWait1 : P (tcpFinWait1 i ifx src dst seg t) := by
  refine andThen_state (h.std4 ht i ifx src dst seg) fun u hu => ?_
  have acked : P (finAcked i seg u) := by
    unfold finAcked
    split
    · exact h.updSock hu ..
    · exact hu
  exact h.done (h.ackFlush (h.finHandle (h.deliver acked i seg) i seg _) i) _

theorem Records.tcpFinWait2 : P (tcpFinWait2 i ifx src dst seg t) :=
  andThen_state (h.std4 ht i ifx src dst seg) fun _ hu =>
    h.done (h.ackFlush (h.finHandle (h.deliver hu i seg) i seg _) i) _

theorem Records.tcpClosing : P (tcpClosing i ifx src dst seg t) := by
  refine andThen_state (h.std4 ht i ifx src dst seg) fun u hu => ?_
  split
  · exact h.done (h.enterTimeWait hu i) _
  · exact h.drop hu _

omit ifx src dst in
theorem Records.tcpTimeWait : P (tcpTimeWait i seg t) := by
  unfold Machine.tcpTimeWait
  split
  · exact h.done (h.enterClosed ht i true) _
  · split
    · exact h.done (h.updSock (h.sendAck ht i) ..) _
    · exact h.drop ht _

theorem Records.tcpDispatch : P (tcpDispatch i ifx src dst seg t) := by
  unfold Machine.tcpDispatch
  split
  · exact h.tcpClosed ht ..
  · exact h.tcpListen ht ..
  · exact h.tcpSynSent ht ..
  · exact h.tcpSynRcvd ht ..
  · exact h.tcpEstablished ht ..
  · exact h.tcpCloseWait ht ..
  · exact h.tcpLastAck ht ..
  · exact h.tcpFinWait1 ht ..
  · exact h.tcpFinWait2 ht ..
  · exact h.tcpClosing ht ..
  · exact h.tcpTimeWait ht ..

omit i seg in
theorem Records.receiveTcp (seg : Bytes) : P (receiveTcp ifx src dst seg t) :=
  h.toOrdinary.receiveTcp ht (fun hu => h.tcpDispatch hu) ..

omit ifx src dst seg in
theorem Records.tickSock : P (tickSock i t) := by
  unfold Machine.tickSock
  dsimp only
  split
  · exact h.enterClosed ht i false
  · split
    · exact h.updSock (h.sendAck ht i) ..
    · exact ht

end records

section sockets
variable {P : State → Prop} (h : Records P) {t : State} (ht : P t) (i : Nat)
include h ht

omit i in
theorem Records.sockOpen (k : SockType) : P (sockOpen k t) := by
  unfold Machine.sockOpen
  split
  · exact h.drop (h.setR0 ht _) _
  · exact h.done (h.setR0 (h.setSock ht ..) _) _

theorem Records.sockBind (p : Half) : P (sockBind i p t) := by
  unfold Machine.sockBind
  dsimp only
  split
  · exact h.drop ht _
  · exact h.done (h.setSock ht ..) _

theorem Records.sockListen (b : Half) : P (sockListen i b t) := by
  unfold Machine.sockListen
  dsimp only
  split
  · exact h.drop ht _
  · exact h.done (h.setSock ht ..) _

theorem Records.sockConnect (p : Half) : P (sockConnect i p t) := by
  unfold Machine.sockConnect
  dsimp only
  split
  · exact h.drop ht _
  · split
    · exact h.drop ht _
    · exact h.done (h.setR0 (h.sendSegment (h.setSock ht ..) ..) 0) _

theorem Records.sockAccept : P (sockAccept i t) := by
  unfold Machine.sockAccept
  dsimp only
  split
  · exact h.drop ht _
  · split
    · exact h.done (h.setR0 ht _) _
    · split
      · exact h.drop (h.setR0 ht _) _
      · exact h.done (h.setR0 (h.sendSegment (h.setSock (h.setSock (h.rtoAsked ht) ..) ..) ..) _) _

theorem Records.sendFin (st : TcpState) : P (sendFin i st t) := by
  unfold Machine.sendFin
  exact h.updSock (h.sendSegment (h.updSock ht ..) ..) ..

theorem Records.sockShut : P (sockShut i t) := by
  have fin (st : TcpState) : P (Machine.updSock (Machine.sendFin i st t) i fun k => { k with ackPending := false }) :=
    h.updSock (h.sendFin ht i st) ..
  unfold Machine.sockShut
  dsimp only
  split
  · exact h.drop ht _
  · split
    · exact h.done (h.setR0 (fin _) 0) _
    · exact h.done (h.setR0 (fin _) 0) _
    all_goals exact h.drop ht _

theorem Records.letGo : P (letGo i t) := by
  unfold Machine.letGo
  dsimp only
  split
  · exact h.recycle ht i
  · split
    · exact h.recycle ht i
    · exact h.recycle ht i
    · exact h.recycle ht i
    · exact h.sendFin ht i _
    · exact h.sendFin ht i _
    · exact h.sendFin ht i _
    all_goals exact ht

theorem Records.sockClose : P (sockClose i t) := by
  unfold Machine.sockClose
  dsimp only
  split
  · exact h.drop ht _
  · exact h.done (h.setR0 (h.letGo (h.setSock ht ..) i) 0) _

theorem Records.sockRecv (n : Half) : P (sockRecv i n t) := by
  unfold Machine.sockRecv
  dsimp only
  split
  · exact h.drop ht _
  · split
    · exact h.done ht _
    · exact h.done (h.setOut (h.setR0 (h.setSock ht ..) _) _) _

end sockets

/-! The reassembly engine and its sweep. -/

section slots
variable {P : State → Prop} (h : Ordinary P) (hi : ∀ {u}, P u → ∀ i f, P (setIface u i f)) {t : State} (ht : P t)
include h hi ht

/-- REASM, where `P` survives any write of an interface. -/
theorem Ordinary.reassemble (hr : ∀ {u}, P u → ∀ ifx src dst seg, P (Machine.receiveTcp ifx src dst seg u))
    (ifx : Byte) (d : Bytes) : P (reassemble ifx d t) := by
  unfold Machine.reassemble
  split
  · exact h.drop ht _
  · split
    · exact h.drop ht _
    · dsimp only
      split
      · exact h.drop (hi ht ..) _
      · split
        · exact h.done (hi ht ..) _
        · exact hi (h.demux (hi ht ..) hr ..) ..

theorem Ordinary.evict (i j : Nat) : P (evict i j t) := by
  unfold Machine.evict
  dsimp only
  refine hi (h.count ?_ _) _ _
  split
  · exact h.raiseIcmp ht ..
  · exact ht

omit hi in
/-- FRAGTICK, as far as the eviction of a slot keeps `P`. -/
theorem Ordinary.fragTick (he : ∀ {u}, P u → ∀ i j, P (Machine.evict i j u)) (i : Nat) : P (fragTick i t) := by
  have sweep (n : Nat) : ∀ j u, P u → P (sweepSlots i n j u) := by
    induction n with
    | zero => exact fun _ _ hu => hu
    | succ n ih =>
      intro j u hu
      refine ih _ _ ?_
      split
      · exact h.setR0 (he hu i j) _
      · exact hu
  exact h.done (sweep _ _ _ (h.setR0 ht 0)) _

end slots

end Sys2Proof.Proofs
end

section
/-! From the operations to `exec` and `step`: what the operations keep, every instruction keeps, and so does every
step a host can cause. -/

namespace Sys2Proof.Proofs

open Machine Claims

/-- `P` survives the operations that commands are made of, each under the operand tests its command has passed. -/
structure Operations (P : State → Prop) : Prop extends Ordinary P where
  receiveTcp : ∀ {t}, P t → ∀ ifx src dst seg, P (receiveTcp ifx src dst seg t)
  reassemble : ∀ {t}, P t → ∀ ifx d, headerLen d ≤ d.length → P (reassemble ifx d t)
  fragTick : ∀ {t}, P t → ∀ i, P (fragTick i t)
  tcpTick : ∀ {t}, P t → P (tcpTick t)
  control : ∀ {t}, P t → ∀ x y f, controlWriteOperand t x y = some f → P (setIface t x.toNat f)
  sockOpen : ∀ {t}, P t → ∀ k, k ≠ .unused → P (sockOpen k t)
  sockBind : ∀ {t}, P t → ∀ i p, P (sockBind i p t)
  sockListen : ∀ {t}, P t → ∀ i b, backlogOk t b = true → P (sockListen i b t)
  sockConnect : ∀ {t}, P t → ∀ i p, P (sockConnect i p t)
  sockAccept : ∀ {t}, P t → ∀ i, P (sockAccept i t)
  sockShut : ∀ {t}, P t → ∀ i, P (sockShut i t)
  sockClose : ∀ {t}, P t → ∀ i, P (sockClose i t)
  sockRecv : ∀ {t}, P t → ∀ i n, P (sockRecv i n t)

/-- Where `i` is one of the five commands that write the lock, the time, an operand register or empty a queue, `P`
survives that write. -/
structure Special (i : Instr) (P : State → Prop) : Prop where
  lock : i = .lock ∨ i = .unlock → ∀ {t}, P t → ∀ l, P (setLock t l)
  time : i = .tick → ∀ {t}, P t → P (advanceNow t)
  register : ∀ x v, i = .seta x v → ∀ {t}, P t → ∀ r, P (setReg t r v)
  queues : ∀ q, i = .drain q → ∀ {t}, P t → ∀ s, P (drained s t)

theorem Closed.operations {P : State → Prop} (h : Closed P) : Operations P where
  toOrdinary := h.toOrdinary
  receiveTcp ht := h.receiveTcp ht
  reassemble ht ifx d _ := h.toOrdinary.reassemble h.setIface ht (fun hu => h.receiveTcp hu) ifx d
  fragTick ht := h.fragTick ht fun hu => h.toOrdinary.evict h.setIface hu
  tcpTick ht := h.tcpTick ht fun hu => h.tickSock hu
  control ht _ _ _ _ := h.setIface ht ..
  sockOpen ht k _ := h.sockOpen ht k
  sockBind ht := h.sockBind ht
  sockListen ht i b _ := h.sockListen ht i b
  sockConnect ht := h.sockConnect ht
  sockAccept ht := h.sockAccept ht
  sockShut ht := h.sockShut ht
  sockClose ht := h.sockClose ht
  sockRecv ht := h.sockRecv ht

/-- A type that SOPEN takes is not the type of a free record. -/
theorem ofOperand_ne_unused {y : Half} (hy : (SockType.ofOperand y).isSome = true) :
    (SockType.ofOperand y).getD .unused ≠ .unused := by
  obtain ⟨ty, hty⟩ := Option.isSome_iff_exists.mp hy
  rw [hty, Option.getD_some]
  unfold SockType.ofOperand at hty
  split at hty
  · cases hty; decide
  · split at hty
    · cases hty; decide
    · split at hty <;> cases hty
      decide

section
variable {P : State → Prop} {s t : State}

/-- A command keeps `P` if its refusal does and its body does on the operands it has tested. -/
theorem Ordinary.runCommand (h : Ordinary P) (hs : P s) {l : Bool} {rs : List (Fin 8)} {g : Bool}
    {b : State → State} (hb : g = true → P (Machine.setR0 s 0) → P (b (Machine.setR0 s 0))) :
    P (Machine.runCommand s l rs g b) := by
  have h0 := h.setR0 hs 0
  rcases runCommand_cases s l rs g b with ⟨-, -, e⟩ | e | ⟨-, -, hg, e⟩
  · exact e ▸ h.drop h0 _
  · exact e ▸ h.drop h0 _
  · exact e ▸ hb hg h0

theorem Ordinary.execLock (h : Ordinary P) (hl : ∀ {t}, P t → ∀ l, P (setLock t l)) (hs : P s)
    (e : exec .lock s = .next t) : P t := by
  cases e
  refine h.runCommand hs fun _ h0 => ?_
  split
  · exact h.done (hl h0 _) _
  · exact h.done (h.setR0 h0 _) _

theorem Ordinary.execUnlock (h : Ordinary P) (hl : ∀ {t}, P t → ∀ l, P (setLock t l)) (hs : P s)
    (e : exec .unlock s = .next t) : P t := by
  cases e
  refine h.runCommand hs fun _ h0 => ?_
  split
  · exact h.done (hl h0 _) _
  · exact h.drop h0 _

theorem Operations.execTick (h : Operations P) (hn : ∀ {t}, P t → P (advanceNow t)) (hs : P s)
    (e : exec .tick s = .next t) : P t := by
  have sweep (n : Nat) : ∀ i u, P u → P (fragTicks n i u) := by
    induction n with
    | zero => exact fun _ _ hu => hu
    | succ n ih => exact fun i u hu => ih _ _ (h.fragTick hu i)
  cases e
  exact h.runCommand hs fun _ h0 => h.done (h.setR0 (h.tcpTick (sweep _ _ _ (hn h0))) _) _

theorem Ordinary.execSeta (h : Ordinary P) {x : Byte} {v : Word} (hr : ∀ {t}, P t → ∀ r, P (setReg t r v)) (hs : P s)
    (e : exec (.seta x v) s = .next t) : P t := by
  cases e
  refine h.runCommand hs fun _ h0 => ?_
  split
  · exact h.done (hr h0 _) _
  · exact h0

theorem Ordinary.execDrain (h : Ordinary P) {x : Byte} (hq : ∀ {t}, P t → ∀ q, P (drained q t)) (hs : P s)
    (e : exec (.drain x) s = .next t) : P t := by
  cases e
  refine h.runCommand hs fun _ h0 => ?_
  split
  · exact h.done (hq h0 _) _
  · exact h0

theorem Operations.execCrwr (h : Operations P) {x : Byte} {y : Half} (hs : P s)
    (e : exec (.crwr x y) s = .next t) : P t := by
  cases e
  refine h.runCommand hs fun _ h0 => ?_
  split
  · rename_i f hf
    exact h.done (h.control h0 x y f hf) _
  · exact h0

/-- What the operations keep, and the write of the command itself where it has one, every command keeps. -/
theorem Operations.command (h : Operations P) {i : Instr} (hi : Special i P) (hc : i.isCommand = true) (hs : P s)
    (e : exec i s = .next t) : P t := by
  cases i with
  | nop => cases e; exact h.runCommand hs fun _ h0 => h.done h0 _
  | csum => cases e; exact h.runCommand hs fun _ h0 => h.done (h.setR0 h0 _) _
  | csumx => cases e; exact h.runCommand hs fun _ h0 => h.done (h.setR0 h0 _) _
  | csumul => cases e; exact h.runCommand hs fun _ h0 => h.done (h.setR0 h0 _) _
  | iprx x =>
    cases e
    exact h.runCommand hs fun _ h0 => h.admitPacket h0 (fun hu => h.receiveTcp hu) (fun hu => h.reassemble hu) ..
  | iptx => cases e; exact h.runCommand hs fun _ h0 => h.sendIp h0 ..
  | fragtick => cases e; exact h.runCommand hs fun _ h0 => h.fragTick h0 _
  | lookupt => cases e; exact h.runCommand hs fun _ h0 => h.lookupEnd h0 _
  | lookupu => cases e; exact h.runCommand hs fun _ h0 => h.lookupEnd h0 _
  | tcptick => cases e; exact h.runCommand hs fun _ h0 => h.tcpTick h0
  | lock => exact h.execLock (hi.lock (.inl rfl)) hs e
  | unlock => exact h.execUnlock (hi.lock (.inr rfl)) hs e
  | tick => exact h.execTick (hi.time rfl) hs e
  | crrd =>
    cases e
    refine h.runCommand hs fun _ h0 => ?_
    split
    · exact h.done (h.setR0 h0 _) _
    · exact h0
  | crwr => exact h.execCrwr hs e
  | skrd => cases e; exact h.runCommand hs fun _ h0 => h.done (h.setR0 h0 _) _
  | seta => exact h.execSeta (hi.register _ _ rfl) hs e
  | geta =>
    cases e
    refine h.runCommand hs fun _ h0 => ?_
    split
    · exact h.done (h.setR0 h0 _) _
    · exact h0
  | drain => exact h.execDrain (hi.queues _ rfl) hs e
  | sopen => cases e; exact h.runCommand hs fun hg h0 => h.sockOpen h0 _ (ofOperand_ne_unused hg)
  | sbind => cases e; exact h.runCommand hs fun _ h0 => h.sockBind h0 ..
  | slisten =>
    cases e
    exact h.runCommand hs fun hg h0 => h.sockListen h0 _ _ (Bool.and_eq_true_iff.mp hg).2
  | sconnect => cases e; exact h.runCommand hs fun _ h0 => h.sockConnect h0 ..
  | saccept => cases e; exact h.runCommand hs fun _ h0 => h.sockAccept h0 _
  | sshut => cases e; exact h.runCommand hs fun _ h0 => h.sockShut h0 _
  | sclose => cases e; exact h.runCommand hs fun _ h0 => h.sockClose h0 _
  | srecv => cases e; exact h.runCommand hs fun _ h0 => h.sockRecv h0 ..
  | _ => cases hc

/-- A state operation entered alone leaves what its body leaves, where it is not stopped by a fault. -/
theorem stateOp_next {k x : Byte} {b : State → State} (e : stateOp k x b s = .next t) : t = b s := by
  unfold stateOp at e
  split at e
  · cases e
  · split at e <;> cases e
    rfl

/-- An internal operation that tests its interface first leaves what its body leaves, where it is not stopped. -/
theorem guarded_next {c : Prop} [Decidable c] {u : State} {r : Fault}
    (e : (if c then .next u else .fault r : Host.Outcome State Fault Refusal) = .next t) : t = u := by
  split at e <;> cases e
  rfl

/-- What the primitive updates keep, every instruction keeps. -/
theorem Closed.exec (h : Closed P) {i : Instr} (hi : Special i P) (hs : P s) (e : exec i s = .next t) : P t := by
  cases i with
  | pshdr => cases e; exact h.setOut hs _
  | ipdemux => exact guarded_next e ▸ h.demux hs (fun hu => h.receiveTcp hu) ..
  | reasm => exact guarded_next e ▸ h.toOrdinary.reassemble h.setIface hs (fun hu => h.receiveTcp hu) ..
  | ipfrag => exact guarded_next e ▸ h.sendFragments hs ..
  | tcprx => exact guarded_next e ▸ h.receiveTcp hs ..
  | tcpsClosed => exact stateOp_next e ▸ h.tcpClosed hs ..
  | tcpsListen => exact stateOp_next e ▸ h.tcpListen hs ..
  | tcpsSynSent => exact stateOp_next e ▸ h.tcpSynSent hs ..
  | tcpsSynRcvd => exact stateOp_next e ▸ h.tcpSynRcvd hs ..
  | tcpsEstablished => exact stateOp_next e ▸ h.tcpEstablished hs ..
  | tcpsCloseWait => exact stateOp_next e ▸ h.tcpCloseWait hs ..
  | tcpsLastAck => exact stateOp_next e ▸ h.tcpLastAck hs ..
  | tcpsFinWait1 => exact stateOp_next e ▸ h.tcpFinWait1 hs ..
  | tcpsFinWait2 => exact stateOp_next e ▸ h.tcpFinWait2 hs ..
  | tcpsClosing => exact stateOp_next e ▸ h.tcpClosing hs ..
  | tcpsTimeWait => exact stateOp_next e ▸ h.tcpTimeWait hs ..
  | _ => exact h.operations.command hi rfl hs e

end

/-! One step. -/

/-- The decoder answers a command word with a command. -/
theorem decodeCommand_isCommand {cmd wdata : Word} {i : Instr} (e : decodeCommand cmd wdata = .ok i) :
    i.isCommand = true := by
  unfold decodeCommand at e
  dsimp only at e
  split at e <;> cases e <;> rfl

/-- The decoder rejects a command word as an illegal command only. -/
theorem decodeCommand_error {cmd wdata : Word} {r : DecodeError} (e : decodeCommand cmd wdata = .error r) :
    r = .badCommand (cmdOp cmd) := by
  unfold decodeCommand at e
  dsimp only at e
  split at e <;> cases e
  rfl

/-- The step with a command word first in the port: latched, decoded and run (10_state.md R23). -/
theorem step_command {s : State} {cmd wdata : Word} {tid : Byte} {rest : List Input} {i : Instr}
    (hp : s.port = .command cmd tid wdata :: rest) (hd : decode (.command cmd wdata) = .ok i) :
    step s = exec i (latched cmd tid (taking s rest)) := by
  simp only [step, fetch, hp, hd]

/-- The step with a command word first in the port that selects nothing (30_encoding.md R111). -/
theorem step_illegal {s : State} {cmd wdata : Word} {tid : Byte} {rest : List Input} {r : DecodeError}
    (hp : s.port = .command cmd tid wdata :: rest) (hd : decode (.command cmd wdata) = .error r) :
    step s = .next (illegalCommand (latched cmd tid (taking s rest))) := by
  simp only [step, fetch, hp, hd, decodeCommand_error hd, rejected]

/-- The step with an internal operation first in the port (log 4). -/
theorem step_internal {s : State} {e : Entry} {rest : List Input} {i : Instr} (hp : s.port = .internal e :: rest)
    (hd : decode e = .ok i) : step s = exec i (taking s rest) := by
  simp only [step, fetch, hp, hd]

/-- The step with a store of the host first in the port (70_reset_and_hazards.md R346). -/
theorem step_store {s : State} {a : Word} {b : Bytes} {rest : List Input} (hp : s.port = .store a b :: rest) :
    step s = .next (setMem (taking s rest) (memStore s.mem a b)) := by
  simp only [step, fetch, hp, taking_mem]

/-- The step with the reset input first in the port (70_reset_and_hazards.md R340). -/
theorem step_reset {s : State} {rest : List Input} (hp : s.port = .reset :: rest) :
    step s = .next (afterReset (taking s rest)) := by
  simp only [step, fetch, hp]

/-- The step with nothing presented (log 3). -/
theorem step_empty {s : State} (hp : s.port = []) : step s = .next s := by
  simp only [step, fetch, hp]

/-- What the operations keep, and the writes of the port besides, every step keeps that a host can cause. -/
theorem Operations.step {P : State → Prop} (h : Operations P) (special : ∀ i, Special i P)
    (taken : ∀ {t}, P t → ∀ rest, P (taking t rest)) (latch : ∀ {t}, P t → ∀ c i, P (latched c i t))
    (store : ∀ {t}, P t → ∀ m, P (setMem t m)) (reset : ∀ {t}, P t → P (afterReset t)) {s t : State}
    (hp : hostOnly s) (hs : P s) (e : step s = .next t) : P t := by
  cases hport : s.port with
  | nil =>
    cases (step_empty hport).symm.trans e
    exact hs
  | cons x rest =>
    have ht := taken hs rest
    cases x with
    | command cmd tid wdata =>
      have hl := latch ht cmd tid
      cases hd : decode (.command cmd wdata) with
      | ok i =>
        rw [step_command hport hd] at e
        exact h.command (special i) (decodeCommand_isCommand hd) hl e
      | error r =>
        cases (step_illegal hport hd).symm.trans e
        exact h.drop (h.setR0 hl 0) _
    | store a b =>
      cases (step_store hport).symm.trans e
      exact store ht _
    | reset =>
      cases (step_reset hport).symm.trans e
      exact reset ht
    | internal en =>
      have := hp (.internal en) (by simp [hport])
      cases this

end Sys2Proof.Proofs
end

section
/-! The step and the reset state: what one input of the port does, and the table of 10_state.md R60. -/

namespace Sys2Proof.Proofs

open Machine Claims

/-- Settles O5: `step` is `fetch`, the decoder and `exec`, read off its equations case by case. -/
theorem stepRunsDecodedInstruction : Obligations.StepRunsDecodedInstruction := by
  unfold Obligations.StepRunsDecodedInstruction
  exact ⟨fun _ _ _ _ _ _ hp hd => step_command hp hd, fun _ _ _ _ hp hd => step_internal hp hd,
    fun _ hp => step_empty hp⟩

/-- Every operand register is empty after reset (10_state.md R60). -/
theorem resetWith_a (p : Params) (r : Fin 8) : (State.resetWith p).a[r] = none := by
  simp [State.resetWith]

/-- Every counter is zero after reset (10_state.md R60). -/
theorem resetWith_cnt (p : Params) (c : Byte) : (State.resetWith p).cnt[c.toNat]'c.isLt = 0 := by
  simp [State.resetWith]

/-- An interface record after reset is the one the table of 10_state.md R60 gives. -/
theorem mem_resetWith_ifs {p : Params} {f : Iface} (hf : f ∈ (State.resetWith p).ifs) : f = Iface.reset p :=
  List.eq_of_mem_replicate hf

/-- A connection record after reset is free (10_state.md R60). -/
theorem mem_resetWith_socks {p : Params} {k : Sock} (hk : k ∈ (State.resetWith p).socks) : k = Sock.reset :=
  List.eq_of_mem_replicate hk

/-- Settles O8: the reset state is written out as the table of 10_state.md R60 is; only the two vectors are read
entry by entry. -/
theorem resetValues : Obligations.ResetValues := by
  unfold Obligations.ResetValues
  refine ⟨by decide, fun p => ⟨resetWith_a p, rfl, rfl, rfl, rfl, rfl, rfl, rfl, rfl, rfl, rfl, rfl, rfl,
    resetWith_cnt p⟩⟩

/-- Settles O7: the reset input leaves `afterReset`, whose context is that of `State.resetWith` for the parameters in
force. -/
theorem resetInputRestoresContext : Obligations.ResetInputRestoresContext := by
  unfold Obligations.ResetInputRestoresContext
  intro s rest hp
  refine ⟨_, step_reset hp, resetWith_a s.par, rfl, rfl, rfl, rfl, rfl, rfl, List.length_replicate, ?_,
    List.length_replicate, fun k hk => mem_resetWith_socks hk, rfl, rfl, rfl, rfl, resetWith_cnt s.par, rfl, rfl, rfl⟩
  intro f hf
  cases mem_resetWith_ifs hf
  exact ⟨rfl, rfl, List.length_replicate, List.length_replicate, List.length_replicate,
    fun e he => List.eq_of_mem_replicate he, fun g hg => List.eq_of_mem_replicate hg,
    fun x hx => List.eq_of_mem_replicate hx⟩

/-! The invariants at reset. -/

/-- A free slot meets the slot invariant (10_state.md R43). -/
theorem slotInv_reset : slotInv Slot.reset := ⟨(fun h => nomatch h), fun _ => rfl⟩

/-- An interface after reset is sound: its tables have their sizes and no slot is in use. -/
theorem ifaceInv_reset (p : Params) : ifaceInv p (Iface.reset p) := by
  refine ⟨List.length_replicate, List.length_replicate, List.length_replicate, fun x hx => ?_, ?_⟩
  · exact List.eq_of_mem_replicate hx ▸ slotInv_reset
  · exact List.pairwise_replicate.mpr (.inr fun h => nomatch h)

/-- A free record is sound. -/
theorem sockInv_reset (p : Params) : sockInv p Sock.reset := by
  refine ⟨fun _ => rfl, fun _ => rfl, (fun h => nomatch h), fun _ => ⟨rfl, rfl⟩, Nat.zero_le _, Nat.zero_le _,
    (fun _ h => nomatch h), Nat.zero_le _, fun _ => rfl, ⟨fun _ => rfl, .nil, fun _ h => nomatch h⟩,
    (fun _ _ h => nomatch h), Nat.zero_le _⟩

theorem tablesInv_resetWith (p : Params) : tablesInv (State.resetWith p) :=
  ⟨⟨List.length_replicate, List.length_replicate⟩, fun _ hf => mem_resetWith_ifs hf ▸ ifaceInv_reset p⟩

theorem socksInv_resetWith (p : Params) : socksInv (State.resetWith p) :=
  fun _ hk => mem_resetWith_socks hk ▸ sockInv_reset p

/-- Settles O56. -/
theorem resetMeetsInvariants : Obligations.ResetMeetsInvariants := by
  unfold Obligations.ResetMeetsInvariants
  exact fun p => ⟨resetWith_mem_wf p, tablesInv_resetWith p, socksInv_resetWith p, fun _ hx => nomatch hx⟩

end Sys2Proof.Proofs
end

section
/-! Rules over all instructions: the lock, the time, the operand registers and the queues (10_state.md R21, R24, R25,
R50 to R53). -/

namespace Sys2Proof.Proofs

open Machine Claims

/-! Parts of the context that only a command of their own writes. -/

/-- What every operation keeps of a state (`Kept`) is kept by all primitive updates. -/
theorem closed_of_kept {α : Type} {f : State → α} (hf : ∀ {s t}, Kept s t → f t = f s) (s : State) :
    Closed fun t => f t = f s where
  setR0 ht _ := (hf ((Kept.refl _).setR0 _)).trans ht
  setOut ht _ := (hf (by constructor <;> rfl)).trans ht
  count ht _ := (hf ((Kept.refl _).count _)).trans ht
  done ht _ := (hf ((Kept.refl _).done _)).trans ht
  raiseIcmp ht _ _ _ _ _ := (hf ((Kept.refl _).raiseIcmp ..)).trans ht
  signal ht _ _ := (hf ((Kept.refl _).signal ..)).trans ht
  pushUp ht _ := (hf ((Kept.refl _).pushUp _)).trans ht
  advanceId ht _ := (hf ((Kept.refl _).advanceId _)).trans ht
  emitState ht _ := (hf ((Kept.refl _).emitState _)).trans ht
  rtoAsked ht := (hf (Kept.refl _).rtoAsked).trans ht
  deferAsked ht := (hf (Kept.refl _).deferAsked).trans ht
  setSock ht _ _ := (hf ((Kept.refl _).setSock ..)).trans ht
  setIface ht _ _ := (hf ((Kept.refl _).setIface ..)).trans ht

/-- The lock is left alone by every instruction but LOCK and UNLOCK (10_state.md R24). -/
theorem exec_lock_eq {i : Instr} {s t : State} (e : exec i s = .next t) (hl : i ≠ .lock) (hu : i ≠ .unlock) :
    t.lock = s.lock :=
  (closed_of_kept (f := State.lock) Kept.lock s).exec
    { lock := fun h => absurd h (not_or.mpr ⟨hl, hu⟩)
      time := fun _ {_} ht => ht
      register := fun _ _ _ {_} ht _ => ht
      queues := fun _ _ {_} ht _ => ht } rfl e

/-- The time is left alone by every instruction but TICK (10_state.md R25). -/
theorem exec_now_eq {i : Instr} {s t : State} (e : exec i s = .next t) (hi : i ≠ .tick) : t.now = s.now :=
  (closed_of_kept (f := State.now) Kept.now s).exec
    { lock := fun _ {_} ht _ => ht
      time := fun h => absurd h hi
      register := fun _ _ _ {_} ht _ => ht
      queues := fun _ _ {_} ht _ => ht } rfl e

/-- An operand register is left alone by every instruction but SETA (10_state.md R21). -/
theorem exec_a_eq {i : Instr} {s t : State} (e : exec i s = .next t) (hi : ∀ x v, i ≠ .seta x v) : t.a = s.a :=
  (closed_of_kept (f := State.a) Kept.a s).exec
    { lock := fun _ {_} ht _ => ht
      time := fun _ {_} ht => ht
      register := fun x v h => absurd h (hi x v)
      queues := fun _ _ {_} ht _ => ht } rfl e

/-! What the commands of their own do. -/

/-- A command that needs no lock, reads no register and tests nothing runs. -/
theorem runCommand_free (s : State) (b : State → State) : runCommand s false [] true b = b (setR0 s 0) :=
  runCommand_runs s _ _ _ b (fun h => nomatch h) rfl rfl

/-- LOCK takes the lock only where it is free, for the task that issues it (45_host_ops.md R280). -/
theorem exec_lock_changes {s t : State} (e : exec .lock s = .next t) (hne : t.lock ≠ s.lock) :
    s.lock = .free ∧ t.lock = .held s.tid := by
  obtain rfl : _ = t := (Host.Outcome.next.inj (e : execLock s = .next t))
  rw [runCommand_free] at hne ⊢
  cases hl : s.lock <;> simp_all

/-- UNLOCK frees the lock only for its holder (45_host_ops.md R281). -/
theorem exec_unlock_changes {s t : State} (e : exec .unlock s = .next t) (hne : t.lock ≠ s.lock) :
    s.lock = .held s.tid ∧ t.lock = .free := by
  obtain rfl : _ = t := (Host.Outcome.next.inj (e : execUnlock s = .next t))
  rw [runCommand_free] at hne ⊢
  by_cases hl : s.lock = .held s.tid <;> simp_all

/-- TICK advances the time by one, where it is not refused (45_host_ops.md R283). -/
theorem exec_tick_changes {s t : State} (e : exec .tick s = .next t) (hne : t.now ≠ s.now) : t.now = s.now + 1 := by
  obtain rfl : _ = t := (Host.Outcome.next.inj (e : execTick s = .next t))
  rcases runCommand_cases s true [] true periodicTick with ⟨-, -, r⟩ | r | ⟨-, -, -, r⟩
  · exact absurd (congrArg State.now r) hne
  · exact absurd (congrArg State.now r) hne
  · rw [r]
    exact (fragTicks_kept _ _ _ _ (Kept.refl (advanceNow (setR0 s 0)))).tcpTick.now

/-- SETA writes its data word to the register its index names, and to no other (45_host_ops.md R287). -/
theorem exec_seta_changes {s t : State} {x : Byte} {v : Word} {r : Fin 8} (e : exec (.seta x v) s = .next t)
    (hne : t.a[r] ≠ s.a[r]) : x = BitVec.ofNat 8 r.val ∧ t.a[r] = some v := by
  obtain rfl : _ = t := (Host.Outcome.next.inj (e : execSeta x v s = .next t))
  rcases runCommand_cases s false [] (regIndex x).isSome _ with ⟨-, -, c⟩ | c | ⟨-, -, hx, c⟩
  · exact absurd (by rw [c]; rfl) hne
  · exact absurd (by rw [c]; rfl) hne
  · rw [c] at hne ⊢
    obtain ⟨i, hi⟩ := Option.isSome_iff_exists.mp hx
    have hxi : x.toNat = i.val := by
      unfold regIndex at hi
      split at hi <;> cases hi
      rfl
    simp only [hi, done_a, setReg_a, setR0_a] at hne ⊢
    by_cases hri : i = r
    · subst hri
      exact ⟨by simp [← hxi], by simp⟩
    · have : i.val ≠ r.val := fun h => hri (Fin.ext h)
      exact absurd (by simp [this]) hne

/-- Settles O12: every other instruction leaves the two alone, and the three commands change them as their rules
say. -/
theorem lockAndTimeKeepTheirCommands : Obligations.LockAndTimeKeepTheirCommands := by
  unfold Obligations.LockAndTimeKeepTheirCommands
  intro i s t e
  constructor
  · intro hne
    by_cases hl : i = .lock
    · subst hl; exact .inl ⟨rfl, exec_lock_changes e hne⟩
    · by_cases hu : i = .unlock
      · subst hu; exact .inr ⟨rfl, exec_unlock_changes e hne⟩
      · exact absurd (exec_lock_eq e hl hu) hne
  · intro hne
    by_cases hi : i = .tick
    · subst hi; exact ⟨rfl, exec_tick_changes e hne⟩
    · exact absurd (exec_now_eq e hi) hne

/-- Settles O14: every other instruction leaves the registers alone, and SETA writes the one it names. -/
theorem operandRegistersWrittenOnlyBySeta : Obligations.OperandRegistersWrittenOnlyBySeta := by
  unfold Obligations.OperandRegistersWrittenOnlyBySeta
  intro i s t r e hne
  by_cases hi : ∃ x v, i = .seta x v
  · obtain ⟨x, v, rfl⟩ := hi
    obtain ⟨rfl, hv⟩ := exec_seta_changes e hne
    exact ⟨v, rfl, hv⟩
  · have same := exec_a_eq e fun x v h => hi ⟨x, v, h⟩
    exact absurd (by rw [same]) hne

/-! The queues. -/

/-- Each queue of `s` is an initial part of that queue of `t`. -/
structure QueuesGrow (s t : State) : Prop where
  txq : s.txq <+: t.txq
  icmpq : s.icmpq <+: t.icmpq
  evq : s.evq <+: t.evq
  upq : s.upq <+: t.upq

theorem QueuesGrow.refl (s : State) : QueuesGrow s s :=
  ⟨List.prefix_rfl, List.prefix_rfl, List.prefix_rfl, List.prefix_rfl⟩

/-- A packet, a report, an event and a hand-off join a queue at its end; no other primitive update writes a queue. -/
theorem queuesGrow_closed (s : State) : Closed (QueuesGrow s) where
  setR0 h _ := ⟨h.txq, h.icmpq, h.evq, h.upq⟩
  setOut h _ := ⟨h.txq, h.icmpq, h.evq, h.upq⟩
  count h _ := ⟨h.txq, h.icmpq, h.evq, h.upq⟩
  done h _ := ⟨h.txq, h.icmpq, h.evq, h.upq⟩
  raiseIcmp h _ _ _ _ _ := ⟨h.txq, h.icmpq.trans (List.prefix_append _ _), h.evq, h.upq⟩
  signal h _ _ := ⟨h.txq, h.icmpq, h.evq.trans (List.prefix_append _ _), h.upq⟩
  pushUp h _ := ⟨h.txq, h.icmpq, h.evq, h.upq.trans (List.prefix_append _ _)⟩
  advanceId h _ := ⟨h.txq, h.icmpq, h.evq, h.upq⟩
  emitState {t} h e := by
    refine ⟨?_, by simpa using h.icmpq, by simpa using h.evq, by simpa using h.upq⟩
    rw [emitState_txq]
    split
    · exact h.txq.trans (List.prefix_append _ _)
    · exact h.txq
  rtoAsked h := ⟨by simpa using h.txq, by simpa using h.icmpq, by simpa using h.evq, by simpa using h.upq⟩
  deferAsked h := ⟨by simpa using h.txq, by simpa using h.icmpq, by simpa using h.evq, by simpa using h.upq⟩
  setSock h _ _ := ⟨h.txq, h.icmpq, h.evq, h.upq⟩
  setIface h _ _ := ⟨h.txq, h.icmpq, h.evq, h.upq⟩

/-- Settles O55: the primitive updates only append, and DRAIN alone writes a queue otherwise. -/
theorem queuesShrinkOnlyByDrain : Obligations.QueuesShrinkOnlyByDrain := by
  unfold Obligations.QueuesShrinkOnlyByDrain
  intro i s t e hi
  have grown : QueuesGrow s t := (queuesGrow_closed s).exec
    { lock := fun _ {_} h _ => ⟨h.txq, h.icmpq, h.evq, h.upq⟩
      time := fun _ {_} h => ⟨h.txq, h.icmpq, h.evq, h.upq⟩
      register := fun _ _ _ {_} h _ => ⟨h.txq, h.icmpq, h.evq, h.upq⟩
      queues := fun q h => absurd h (hi q) } (.refl s) e
  exact ⟨grown.txq, grown.icmpq, grown.evq, grown.upq⟩

end Sys2Proof.Proofs
end

section
/-! The interface and slot invariants (10_state.md R27, R40, R43): the reassembly engine, its sweep and CRWR keep them,
and every other operation leaves the tables alone but for the identification counters. -/

namespace Sys2Proof.Proofs

open Machine Claims

/-! What leaves the tables alone. -/

/-- `t` has the interface tables of `s`, the identification counters apart. -/
structure SameTables (s t : State) : Prop extends Kept s t where
  iface : ∀ n, ∃ x, t.iface n = { s.iface n with ipId := x }

theorem SameTables.refl (s : State) : SameTables s s := ⟨.refl s, fun _ => ⟨_, rfl⟩⟩

/-- An interface record after a write of one of them; a write past the table is none. -/
theorem iface_setIface (s : State) (i n : Nat) (f : Iface) :
    (setIface s i f).iface n = if n = i ∧ i < s.ifs.length then f else s.iface n := by
  by_cases hn : n = i
  · subst hn
    by_cases hl : n < s.ifs.length
    · simp [hl, iface_setIface_same]
    · simp [hl, State.iface]
  · simp [hn, iface_setIface_other]

theorem SameTables.advanceId {s t : State} (h : SameTables s t) (i : Nat) : SameTables s (advanceId t i) := by
  refine { h.toKept.advanceId i with iface := fun n => ?_ }
  obtain ⟨x, hx⟩ := h.iface n
  unfold Machine.advanceId
  dsimp only
  rw [iface_setIface]
  split
  · rename_i hn
    rw [← hn.1, hx]
    exact ⟨_, rfl⟩
  · exact ⟨x, hx⟩

/-- What asks the outside for an answer leaves the tables alone. -/
theorem SameTables.congr {s t u : State} (h : SameTables s t) (k : Kept s u) (hi : u.ifs = t.ifs) : SameTables s u :=
  { k with iface := fun n => iface_congr t u hi (k.par.trans h.par.symm) n ▸ h.iface n }

/-- All but a write of an interface leaves the tables alone. -/
theorem sameTables_records (s : State) : Records (SameTables s) where
  setR0 h v := { h.toKept.setR0 v with iface := h.iface }
  setOut h o := { h.toKept.trans (by constructor <;> rfl) with iface := h.iface }
  count h c := { h.toKept.count c with iface := h.iface }
  done h c := { h.toKept.done c with iface := h.iface }
  raiseIcmp h i y c p b := { h.toKept.raiseIcmp i y c p b with iface := h.iface }
  signal h i e := { h.toKept.signal i e with iface := h.iface }
  pushUp h e := { h.toKept.pushUp e with iface := h.iface }
  advanceId h i := h.advanceId i
  emitState h e := h.congr (h.toKept.emitState e) (emitState_ifs _ _)
  rtoAsked h := h.congr h.toKept.rtoAsked (rtoAsked_ifs _)
  deferAsked h := h.congr h.toKept.deferAsked (deferAsked_ifs _)
  setSock h i k := { h.toKept.setSock i k with iface := h.iface }

/-! The invariant of one interface, as its slots are written. -/

/-- Two slots have one key iff the four fields agree. -/
theorem key_eq_iff {x y : Slot} :
    x.key = y.key ↔ x.src = y.src ∧ x.dst = y.dst ∧ x.id = y.id ∧ x.proto = y.proto := by
  simp [Slot.key]

/-- No slot in use other than slot `j` has the key `k`. -/
def keyFree (fs : List Slot) (j : Nat) (k : FragKey) : Prop :=
  ∀ m (hm : m < fs.length), m ≠ j → fs[m].inUse = true → fs[m].key ≠ k

/-- A sound slot may replace another where no other slot in use has its key. -/
theorem ifaceInv_setSlot {p : Params} {f : Iface} {j : Nat} {g : Slot} (hf : ifaceInv p f) (hg : slotInv g)
    (hk : g.inUse = true → keyFree f.frag j g.key) : ifaceInv p { f with frag := f.frag.set j g } := by
  obtain ⟨haddr, hmcast, hlen, hslots, hkeys⟩ := hf
  refine ⟨haddr, hmcast, by simpa using hlen, fun x hx => ?_, ?_⟩
  · rcases List.mem_or_eq_of_mem_set hx with hx | rfl
    · exact hslots x hx
    · exact hg
  · rw [List.pairwise_iff_getElem] at hkeys ⊢
    intro m n hm hn hmn hum hun
    rw [List.length_set] at hm hn
    simp only [List.getElem_set] at hum hun ⊢
    rw [← key_eq_iff]
    by_cases hjm : j = m
    · rw [if_pos hjm] at hum ⊢
      rw [if_neg (by omega)] at hun ⊢
      exact (hk hum n hn (by omega) hun).symm
    · rw [if_neg hjm] at hum ⊢
      by_cases hjn : j = n
      · rw [if_pos hjn] at hun ⊢
        exact hk hun m hm (by omega) hum
      · rw [if_neg hjn] at hun ⊢
        rw [key_eq_iff]
        exact hkeys m n hm hn hmn hum hun

/-- A slot may always be released. -/
theorem ifaceInv_release {p : Params} {f : Iface} (j : Nat) (hf : ifaceInv p f) :
    ifaceInv p { f with frag := f.frag.set j Slot.reset } :=
  ifaceInv_setSlot hf slotInv_reset fun h => nomatch h

/-- The byte strings of a slot have the lengths that the slot states (10_state.md R40). -/
def lengthsAgree (f : Slot) : Prop := f.data.length = f.dataLen ∧ f.hdr.length = f.hlen.toNat

/-- The slot that step 2 finds or opens is in use under the fragment's key, its lengths agree, and no other slot has
the key (42_frag_reassembly.md R187). -/
theorem locateSlot_sound {p : Params} {r : Iface} {k : FragKey} {now : Word} {j : Nat} {f : Slot} (hr : ifaceInv p r)
    (e : locateSlot k now r.frag = some (j, f)) :
    f.inUse = true ∧ f.key = k ∧ lengthsAgree f ∧ keyFree r.frag j k := by
  obtain ⟨-, -, -, hslots, hkeys⟩ := hr
  unfold locateSlot at e
  split at e
  · rename_i m hm
    cases e
    obtain ⟨hlt, hsel, -⟩ := List.findIdx?_eq_some_iff_getElem.mp hm
    obtain ⟨huse, hkey⟩ : r.frag[j].inUse = true ∧ r.frag[j].key = k := by simpa using hsel
    obtain ⟨-, hdata, hhdr⟩ := (hslots _ (List.getElem_mem hlt)).1 huse
    rw [List.getD_eq_getElem _ _ hlt]
    refine ⟨huse, hkey, ⟨hdata, hhdr⟩, fun n hn hnj hun hkn => ?_⟩
    rw [List.pairwise_iff_getElem] at hkeys
    have same : r.frag[n].key = r.frag[j].key := hkn.trans hkey.symm
    rcases Nat.lt_or_gt_of_ne hnj with hlt' | hlt'
    · exact hkeys n j hn hlt hlt' hun huse (key_eq_iff.mp same)
    · exact hkeys j n hlt hn hlt' huse hun (key_eq_iff.mp same.symm)
  · rename_i hnone
    split at e <;> cases e
    refine ⟨rfl, rfl, ⟨rfl, rfl⟩, fun n hn _ hun hkn => ?_⟩
    have := List.findIdx?_eq_none_iff.mp hnone _ (List.getElem_mem hn)
    simp [hun, hkn] at this

/-- Overwriting keeps the length. -/
theorem overwrite_length (b : Bytes) (i : Nat) (new : Bytes) : (overwrite b i new).length = b.length := by
  simp only [overwrite, List.length_append, List.length_take, List.length_drop]
  omega

/-- A header length fits in a byte: it is four times a 4-bit field (30_encoding.md R91). -/
theorem headerLen_lt (d : Bytes) : headerLen d < 256 := by
  have : ihl d ≤ 15 := by
    unfold ihl
    rw [BitVec.toNat_and]
    exact Nat.and_le_right
  unfold headerLen
  omega

theorem captureHeader_sound {d : Bytes} {f : Slot} (hd : headerLen d ≤ d.length) (hf : lengthsAgree f) :
    (captureHeader d f).inUse = f.inUse ∧ (captureHeader d f).key = f.key ∧ lengthsAgree (captureHeader d f) := by
  unfold captureHeader
  split
  · refine ⟨rfl, rfl, hf.1, ?_⟩
    have := headerLen_lt d
    simp only [List.length_take, BitVec.toNat_ofNat]
    omega
  · exact ⟨rfl, rfl, hf⟩

theorem growSlot_sound {d : Bytes} {f : Slot} (hf : lengthsAgree f) :
    (growSlot d f).inUse = f.inUse ∧ (growSlot d f).key = f.key ∧ lengthsAgree (growSlot d f) := by
  obtain ⟨hdata, hhdr⟩ := hf
  unfold growSlot
  split
  · refine ⟨rfl, rfl, ?_, hhdr⟩
    simp only [List.length_append, List.length_replicate]
    omega
  · exact ⟨rfl, rfl, hdata, hhdr⟩

theorem mergeSlot_sound {d : Bytes} {f : Slot} (hf : lengthsAgree f) :
    (mergeSlot d f).inUse = f.inUse ∧ (mergeSlot d f).key = f.key ∧ lengthsAgree (mergeSlot d f) :=
  ⟨rfl, rfl, (overwrite_length ..).trans hf.1, hf.2⟩

/-- Steps 3 to 6 leave a slot in use under its key, with its lengths agreeing (42_frag_reassembly.md R188 to R191). -/
theorem merged_sound {d : Bytes} {f : Slot} (hd : headerLen d ≤ d.length) (hf : lengthsAgree f) :
    let g := mergeSlot d (growSlot d (captureHeader d f))
    g.inUse = f.inUse ∧ g.key = f.key ∧ lengthsAgree g := by
  obtain ⟨use₁, key₁, len₁⟩ := captureHeader_sound hd hf
  obtain ⟨use₂, key₂, len₂⟩ := growSlot_sound (d := d) len₁
  obtain ⟨use₃, key₃, len₃⟩ := mergeSlot_sound (d := d) len₂
  exact ⟨use₃.trans (use₂.trans use₁), key₃.trans (key₂.trans key₁), len₃⟩

/-! The invariant of the tables. -/

/-- The invariant read at every index: past the table an interface reads as one after reset, which is sound. -/
theorem tablesInv_iff (t : State) : tablesInv t ↔ sized t ∧ ∀ n, ifaceInv t.par (t.iface n) := by
  refine and_congr_right fun _ => ⟨fun h n => ?_, fun h f hf => ?_⟩
  · by_cases hn : n < t.ifs.length
    · rw [State.iface, List.getD_eq_getElem _ _ hn]
      exact h _ (List.getElem_mem hn)
    · rw [State.iface, List.getD_eq_default _ _ (by omega)]
      exact ifaceInv_reset _
  · obtain ⟨n, hn, rfl⟩ := List.getElem_of_mem hf
    have := h n
    rwa [State.iface, List.getD_eq_getElem _ _ hn] at this

/-- The invariant says nothing of the identification counter. -/
theorem ifaceInv_ipId {p : Params} {f : Iface} (x : Half) (h : ifaceInv p f) : ifaceInv p { f with ipId := x } := h

theorem SameTables.sized {s t : State} (h : SameTables s t) (hs : sized s) : sized t :=
  ⟨h.ifsLen.trans (hs.1.trans (congrArg _ h.par.symm)), h.socksLen.trans (hs.2.trans (congrArg _ h.par.symm))⟩

theorem SameTables.tablesInv {s t : State} (h : SameTables s t) (hs : tablesInv s) : tablesInv t := by
  obtain ⟨hsize, hifs⟩ := (tablesInv_iff s).mp hs
  refine (tablesInv_iff t).mpr ⟨h.sized hsize, fun n => ?_⟩
  obtain ⟨x, hx⟩ := h.iface n
  rw [hx, h.par]
  exact ifaceInv_ipId x (hifs n)

/-- A sound interface record may be written. -/
theorem tablesInv_setIface {t : State} {f : Iface} (i : Nat) (ht : tablesInv t) (hf : ifaceInv t.par f) :
    tablesInv (setIface t i f) := by
  obtain ⟨⟨hifs, hsocks⟩, hall⟩ := ht
  refine ⟨⟨by simpa using hifs, hsocks⟩, fun g hg => ?_⟩
  rcases List.mem_or_eq_of_mem_set hg with hg | rfl
  · exact hall g hg
  · exact hf

theorem tablesInv_setSlot {t : State} {i j : Nat} {g : Slot} (ht : tablesInv t) (hg : slotInv g)
    (hk : g.inUse = true → keyFree (t.iface i).frag j g.key) : tablesInv (setSlot t i j g) :=
  tablesInv_setIface i ht (ifaceInv_setSlot (((tablesInv_iff t).mp ht).2 i) hg hk)

theorem tablesInv_releaseSlot {t : State} (i j : Nat) (ht : tablesInv t) : tablesInv (releaseSlot t i j) :=
  tablesInv_setSlot ht slotInv_reset fun h => nomatch h

/-- The invariant holds again once a slot is released that alone may have broken it: REASM demultiplexes a completed
datagram while its slot still has no hole (42_frag_reassembly.md R192). -/
theorem tablesInv_release_after {s t : State} {i j : Nat} {g : Slot} (hs : tablesInv s)
    (h : SameTables (setSlot s i j g) t) : tablesInv (releaseSlot t i j) := by
  obtain ⟨hsize, hifs⟩ := (tablesInv_iff s).mp hs
  have kept : Kept s (releaseSlot t i j) := (((Kept.refl s).setSlot i j g).trans h.toKept).releaseSlot i j
  refine (tablesInv_iff _).mpr ⟨⟨?_, ?_⟩, fun n => ?_⟩
  · rw [kept.ifsLen, kept.par]; exact hsize.1
  · rw [kept.socksLen, kept.par]; exact hsize.2
  · rw [kept.par]
    obtain ⟨x, hx⟩ := h.iface n
    have hlen : t.ifs.length = s.ifs.length := by simpa using h.ifsLen
    unfold releaseSlot setSlot at *
    dsimp only at *
    rw [iface_setIface] at hx ⊢
    rw [hlen]
    by_cases hn : n = i ∧ i < s.ifs.length
    · obtain ⟨rfl, hlt⟩ := hn
      rw [if_pos ⟨rfl, hlt⟩] at hx ⊢
      rw [hx]
      simpa using ifaceInv_ipId x (ifaceInv_release j (hifs n))
    · rw [if_neg hn] at hx ⊢
      exact hx ▸ ifaceInv_ipId x (hifs n)

/-- A legal CRWR leaves the interface sound: it writes no slot, and entries of a table in their places. -/
theorem controlWrite_sound {p : Params} {f g : Iface} {v : Word} {r : ControlReg} (hf : ifaceInv p f)
    (e : controlWrite f v r = some g) : ifaceInv p g := by
  obtain ⟨haddr, hmcast, hslots⟩ := hf
  have entry (k : Nat) (u : AddrEntry → AddrEntry) : ifaceInv p (f.setEntry k u) :=
    ⟨by simpa [Iface.setEntry] using haddr, hmcast, hslots⟩
  cases r with
  | crId | crNow | crLock | crCfg | crQlen | cnt => cases e
  | ifMtu =>
    simp only [controlWrite] at e
    split at e <;> cases e
    exact ⟨haddr, hmcast, hslots⟩
  | ifIpid => cases e; exact ⟨haddr, hmcast, hslots⟩
  | ifAddr => cases e; exact entry _ _
  | ifPlen =>
    simp only [controlWrite] at e
    split at e <;> cases e
    exact entry _ _
  | ifAst =>
    obtain ⟨st, -, rfl⟩ := Option.map_eq_some_iff.mp e
    exact entry _ _
  | ifMcast =>
    simp only [controlWrite] at e
    split at e <;> cases e
    exact ⟨haddr, by simpa using hmcast, hslots⟩

/-! The operations. -/

theorem tablesInv_ordinary : Ordinary tablesInv where
  setR0 ht _ := ht
  setOut ht _ := ht
  count ht _ := ht
  done ht _ := ht
  raiseIcmp ht _ _ _ _ _ := ht
  signal ht _ _ := ht
  pushUp ht _ := ht
  advanceId ht i := ((SameTables.refl _).advanceId i).tablesInv ht
  emitState ht e := ((sameTables_records _).emitState (.refl _) e).tablesInv ht
  rtoAsked ht := ((sameTables_records _).rtoAsked (.refl _)).tablesInv ht
  deferAsked ht := ((sameTables_records _).deferAsked (.refl _)).tablesInv ht

/-- REASM keeps the slot invariants on a datagram whose header is there (42_frag_reassembly.md R185 to R192). -/
theorem tablesInv_reassemble {t : State} (ht : tablesInv t) (ifx : Byte) (d : Bytes) (hd : headerLen d ≤ d.length) :
    tablesInv (reassemble ifx d t) := by
  have h := tablesInv_ordinary
  unfold reassemble
  split
  · exact h.drop ht _
  · split
    · exact h.drop ht _
    · rename_i j f hloc
      obtain ⟨huse, hkey, hlen, hfree⟩ := locateSlot_sound (((tablesInv_iff t).mp ht).2 _) hloc
      obtain ⟨huse', hkey', hlen'⟩ := merged_sound hd hlen
      dsimp only at huse' hkey' hlen' ⊢
      split
      · exact h.drop (tablesInv_releaseSlot _ _ ht) _
      · split
        · rename_i hholes
          refine h.done (tablesInv_setSlot ht ⟨fun _ => ⟨hholes, hlen'⟩, fun hno => ?_⟩ fun _ => ?_) _
          · exact absurd (huse'.trans huse) (by simp [hno])
          · rw [hkey', hkey]; exact hfree
        · exact tablesInv_release_after (g := mergeSlot d (growSlot d (captureHeader d f))) ht
            ((sameTables_records _).demux (.refl _) (fun hu => (sameTables_records _).receiveTcp hu) _ _)

theorem tablesInv_evict {t : State} (ht : tablesInv t) (i j : Nat) : tablesInv (evict i j t) := by
  unfold evict
  dsimp only
  refine tablesInv_releaseSlot _ _ (tablesInv_ordinary.count ?_ _)
  split <;> exact ht

theorem tablesInv_operations : Operations tablesInv where
  toOrdinary := tablesInv_ordinary
  receiveTcp ht _ _ _ _ := ((sameTables_records _).receiveTcp (.refl _) ..).tablesInv ht
  reassemble ht := tablesInv_reassemble ht
  fragTick ht := tablesInv_ordinary.fragTick ht fun hu => tablesInv_evict hu
  tcpTick ht :=
    ((sameTables_records _).tcpTick (.refl _) fun hu => (sameTables_records _).tickSock hu).tablesInv ht
  control {t} ht x y f e := by
    obtain ⟨r, -, hw⟩ := Option.bind_eq_some_iff.mp e
    exact tablesInv_setIface _ ht (controlWrite_sound (((tablesInv_iff t).mp ht).2 _) hw)
  sockOpen ht _ _ := ((sameTables_records _).sockOpen (.refl _) _).tablesInv ht
  sockBind ht _ _ := ((sameTables_records _).sockBind (.refl _) ..).tablesInv ht
  sockListen ht _ _ _ := ((sameTables_records _).sockListen (.refl _) ..).tablesInv ht
  sockConnect ht _ _ := ((sameTables_records _).sockConnect (.refl _) ..).tablesInv ht
  sockAccept ht _ := ((sameTables_records _).sockAccept (.refl _) _).tablesInv ht
  sockShut ht _ := ((sameTables_records _).sockShut (.refl _) _).tablesInv ht
  sockClose ht _ := ((sameTables_records _).sockClose (.refl _) _).tablesInv ht
  sockRecv ht _ _ := ((sameTables_records _).sockRecv (.refl _) ..).tablesInv ht

/-- Settles O58: REASM, FRAGTICK and CRWR keep the invariant by the lemmas above, every other operation because it
writes no table, and reset establishes it. -/
theorem stepKeepsSlotInvariants : Obligations.StepKeepsSlotInvariants := by
  unfold Obligations.StepKeepsSlotInvariants
  intro s t hp hs e
  exact tablesInv_operations.step
    (fun _ =>
      { lock := fun _ {_} ht _ => ht
        time := fun _ {_} ht => ht
        register := fun _ _ _ {_} ht _ => ht
        queues := fun _ _ {_} ht _ => ht })
    (fun ht _ => ht) (fun ht _ _ => ht) (fun ht _ => ht) (fun _ => tablesInv_resetWith _) hp hs e

end Sys2Proof.Proofs
end

section
/-! No operation reads `ST` before it writes it (10_state.md R22): an update carries an altered `ST` through, and the end
of an operation forgets it. -/

namespace Sys2Proof.Proofs

open Machine Claims

/-- `ST` altered, all else left. -/
def setSt (s : State) (c : Byte) : State := { s with st := c }

variable (s : State) (c : Byte)

theorem setSt_self : setSt s s.st = s := rfl

/-! What reads no `ST`. -/

@[simp] theorem setSt_r0 : (setSt s c).r0 = s.r0 := rfl
@[simp] theorem setSt_lock : (setSt s c).lock = s.lock := rfl
@[simp] theorem setSt_now : (setSt s c).now = s.now := rfl
@[simp] theorem setSt_par : (setSt s c).par = s.par := rfl
@[simp] theorem setSt_sock (i : Nat) : (setSt s c).sock i = s.sock i := rfl
@[simp] theorem setSt_iface (i : Nat) : (setSt s c).iface i = s.iface i := rfl
@[simp] theorem setSt_slot (i j : Nat) : (setSt s c).slot i j = s.slot i j := rfl
@[simp] theorem setSt_reg (r : Fin 8) : (setSt s c).reg r = s.reg r := rfl
@[simp] theorem linkAnswer_setSt : linkAnswer (setSt s c) = linkAnswer s := rfl
@[simp] theorem rtoAnswer_setSt : rtoAnswer (setSt s c) = rtoAnswer s := rfl
@[simp] theorem deferAnswer_setSt : deferAnswer (setSt s c) = deferAnswer s := rfl
@[simp] theorem freeSock_setSt : freeSock (setSt s c) = freeSock s := rfl
@[simp] theorem findTcp_setSt (x : Byte) (a b : Word) (p q : Half) :
    findTcp (setSt s c) x a b p q = findTcp s x a b p q := rfl
@[simp] theorem tickCloses_setSt (k : Sock) : tickCloses (setSt s c) k = tickCloses s k := rfl
@[simp] theorem sweepEvicts_setSt (f : Slot) : sweepEvicts (setSt s c) f = sweepEvicts s f := rfl

@[simp] theorem controlRegOperand_setSt (x : Byte) (y : Half) :
    controlRegOperand (setSt s c) x y = controlRegOperand s x y := rfl
@[simp] theorem controlWriteOperand_setSt (x : Byte) (y : Half) :
    controlWriteOperand (setSt s c) x y = controlWriteOperand s x y := rfl
@[simp] theorem controlRegOperand_setR0 (v : Word) (x : Byte) (y : Half) :
    controlRegOperand (setR0 s v) x y = controlRegOperand s x y := rfl
@[simp] theorem controlWriteOperand_setR0 (v : Word) (x : Byte) (y : Half) :
    controlWriteOperand (setR0 s v) x y = controlWriteOperand s x y := rfl

/-! What forgets `ST`. -/

@[simp] theorem done_setSt (k : Cause) : done (setSt s c) k = done s k := rfl
@[simp] theorem drop_setSt (k : Cause) : drop (setSt s c) k = drop s k := rfl

/-! What carries `ST` through. -/

@[simp] theorem setR0_setSt (v : Word) : setR0 (setSt s c) v = setSt (setR0 s v) c := rfl
@[simp] theorem raiseIcmp_setSt (i y k : Byte) (p : Word) (b : Bytes) :
    raiseIcmp (setSt s c) i y k p b = setSt (raiseIcmp s i y k p b) c := rfl
@[simp] theorem pushUp_setSt (e : UpEntry) : pushUp (setSt s c) e = setSt (pushUp s e) c := rfl
@[simp] theorem setSlot_setSt (i j : Nat) (f : Slot) : setSlot (setSt s c) i j f = setSt (setSlot s i j f) c := rfl
@[simp] theorem releaseSlot_setSt (i j : Nat) : releaseSlot (setSt s c) i j = setSt (releaseSlot s i j) c := rfl
@[simp] theorem advanceId_setSt (i : Nat) : advanceId (setSt s c) i = setSt (advanceId s i) c := rfl
@[simp] theorem setSock_setSt (i : Nat) (k : Sock) : setSock (setSt s c) i k = setSt (setSock s i k) c := rfl
@[simp] theorem updSock_setSt (i : Nat) (g : Sock → Sock) : updSock (setSt s c) i g = setSt (updSock s i g) c := rfl
@[simp] theorem recycle_setSt (i : Nat) : recycle (setSt s c) i = setSt (recycle s i) c := rfl
@[simp] theorem advanceNow_setSt : advanceNow (setSt s c) = setSt (advanceNow s) c := rfl

@[simp] theorem linkAsked_setSt : linkAsked (setSt s c) = setSt (linkAsked s) c := by
  unfold linkAsked
  cases h : s.link <;> simp [setSt, h]

@[simp] theorem rtoAsked_setSt : rtoAsked (setSt s c) = setSt (rtoAsked s) c := by
  unfold rtoAsked
  cases h : s.rtoIn <;> simp [setSt, h]

@[simp] theorem deferAsked_setSt : deferAsked (setSt s c) = setSt (deferAsked s) c := by
  unfold deferAsked
  cases h : s.deferIn <;> simp [setSt, h]

@[simp] theorem emitState_setSt (e : TxEntry) : emitState (setSt s c) e = setSt (emitState s e) c := by
  unfold emitState
  rw [linkAnswer_setSt, linkAsked_setSt]
  split <;> rfl

@[simp] theorem enterClosed_setSt (i : Nat) (r : Bool) :
    enterClosed i r (setSt s c) = setSt (enterClosed i r s) c := by
  unfold enterClosed
  split <;> simp_all

@[simp] theorem evict_setSt (i j : Nat) : evict i j (setSt s c) = setSt (evict i j s) c := by
  unfold evict
  dsimp only
  rw [setSt_slot]
  split <;> rfl

/-! The send path and the lookup write `ST` at their end. -/

theorem fragmentLoop_setSt (g : Datagram) (m fuel off : Nat) (pay : Bytes) :
    fragmentLoop g m fuel off pay (setSt s c) = fragmentLoop g m fuel off pay s := by
  induction fuel generalizing off pay s with
  | zero => rfl
  | succ fuel ih =>
    cases pay with
    | nil => rfl
    | cons b rest => simp [fragmentLoop, ih]

@[simp] theorem sendFragments_setSt (g : Datagram) (pay : Bytes) :
    sendFragments g pay (setSt s c) = sendFragments g pay s := by
  simp [sendFragments, fragmentLoop_setSt]

@[simp] theorem sendIp_setSt (x : Byte) (a b : Word) (p l o : Byte) (pay : Bytes) :
    sendIp x a b p l o pay (setSt s c) = sendIp x a b p l o pay s := by
  unfold sendIp
  dsimp only
  rw [setSt_iface, advanceId_setSt, linkAnswer_setSt, emitState_setSt, sendFragments_setSt]
  split
  · rfl
  · split
    · rfl
    · split
      · split <;> rfl
      · rfl

@[simp] theorem sendSegment_setSt (i : Nat) (f : BitVec 6) (q : Word) :
    sendSegment i f q (setSt s c) = sendSegment i f q s := by
  simp [sendSegment]

@[simp] theorem sendAck_setSt (i : Nat) : sendAck i (setSt s c) = sendAck i s := by simp [sendAck]

@[simp] theorem sendReset_setSt (x : Byte) (a b : Word) (g : Segment) :
    sendReset x a b g (setSt s c) = sendReset x a b g s := by
  simp [sendReset]

@[simp] theorem lookupEnd_setSt (o : Option Nat) : lookupEnd (setSt s c) o = lookupEnd s o := by
  cases o <;> rfl

/-! The state operations: a flow that has ended has forgotten the altered `ST`, one that goes on carries it. -/

/-- `f` with `ST` altered, where it goes on. -/
def flowSt (f : Flow) (c : Byte) : Flow :=
  match f with
  | .go t => .go (setSt t c)
  | .ended t => .ended t

/-- A continuation that forgets `ST` makes the whole flow forget it. -/
theorem andThen_flowSt {f : Flow} {k : State → Flow} (h : ∀ t, k (setSt t c) = k t) :
    (flowSt f c).andThen k = f.andThen k := by
  cases f with
  | go t => exact h t
  | ended t => rfl

/-- A continuation that carries `ST` through makes the whole flow carry it. -/
theorem andThen_flowSt_carries {f : Flow} {k : State → Flow} (h : ∀ t, k (setSt t c) = flowSt (k t) c) :
    (flowSt f c).andThen k = flowSt (f.andThen k) c := by
  cases f with
  | go t => exact h t
  | ended t => rfl

section flows
variable (i : Nat) (x : Byte) (a b : Word) (g : Segment)

theorem seqCheck_setSt : seqCheck i g (setSt s c) = flowSt (seqCheck i g s) c := by
  unfold seqCheck
  rw [setSt_sock, sendAck_setSt]
  split
  · rfl
  · split <;> rfl

theorem rstCheck_setSt : rstCheck i g (setSt s c) = flowSt (rstCheck i g s) c := by
  unfold rstCheck
  rw [enterClosed_setSt]
  split <;> rfl

theorem synCheck_setSt : synCheck i x a b g (setSt s c) = flowSt (synCheck i x a b g s) c := by
  unfold synCheck
  rw [sendReset_setSt]
  split <;> rfl

theorem ackProc_setSt : ackProc i g (setSt s c) = flowSt (ackProc i g s) c := by
  unfold ackProc
  rw [setSt_sock, sendAck_setSt]
  split
  · split
    · rfl
    · split <;> rfl
  · rfl

theorem std3_setSt : std3 i x a b g (setSt s c) = flowSt (std3 i x a b g s) c := by
  unfold std3
  rw [seqCheck_setSt, andThen_flowSt_carries c fun t => rstCheck_setSt t c i g,
    andThen_flowSt_carries c fun t => synCheck_setSt t c i x a b g]

theorem std4_setSt : std4 i x a b g (setSt s c) = flowSt (std4 i x a b g s) c := by
  unfold std4
  rw [std3_setSt, andThen_flowSt_carries c fun t => ackProc_setSt t c i g]

@[simp] theorem deliver_setSt : deliver i g (setSt s c) = setSt (deliver i g s) c := by
  unfold deliver
  split
  · rfl
  · dsimp only
    rw [setSt_sock, setSt_par]
    split <;> rfl

/-- A FIN that is taken sends an acknowledgement, which writes `ST`; one that is not leaves all as it is. -/
theorem finHandle_setSt (p : TcpState) : ∃ c', finHandle i g p (setSt s c) = setSt (finHandle i g p s) c' := by
  unfold finHandle
  rw [setSt_sock]
  split
  · exact ⟨_, by rw [updSock_setSt, sendAck_setSt, setSt_self]⟩
  · exact ⟨c, rfl⟩

/-- An acknowledgement that is sent writes `ST`; one that is deferred or not owed does not. -/
theorem ackFlush_setSt : ∃ c', ackFlush i (setSt s c) = setSt (ackFlush i s) c' := by
  unfold ackFlush
  rw [setSt_sock, deferAnswer_setSt, deferAsked_setSt, sendAck_setSt]
  split
  · split
    · exact ⟨c, rfl⟩
    · exact ⟨_, (setSt_self _).symm⟩
  · exact ⟨c, rfl⟩

@[simp] theorem done_ackFlush_setSt (k : Cause) : done (ackFlush i (setSt s c)) k = done (ackFlush i s) k := by
  obtain ⟨c', h⟩ := ackFlush_setSt s c i
  rw [h, done_setSt]

@[simp] theorem done_ackFlush_finHandle_setSt (p : TcpState) (k : Cause) :
    done (ackFlush i (finHandle i g p (setSt s c))) k = done (ackFlush i (finHandle i g p s)) k := by
  obtain ⟨c', h⟩ := finHandle_setSt s c i g p
  rw [h, done_ackFlush_setSt]

@[simp] theorem finAcked_setSt : finAcked i g (setSt s c) = setSt (finAcked i g s) c := by
  unfold finAcked
  rw [setSt_sock]
  split <;> rfl

@[simp] theorem tcpClosed_setSt : tcpClosed x a b g (setSt s c) = tcpClosed x a b g s := by simp [tcpClosed]

@[simp] theorem tcpListen_setSt : tcpListen i x a b g (setSt s c) = tcpListen i x a b g s := by
  unfold tcpListen
  dsimp only
  rw [setSt_sock, sendReset_setSt]
  split
  · rfl
  · split
    · rfl
    · split
      · rfl
      · split
        · rfl
        · split <;> rfl

@[simp] theorem tcpSynSent_setSt : tcpSynSent i x a b g (setSt s c) = tcpSynSent i x a b g s := by
  unfold tcpSynSent
  simp only [setSt_sock, setSt_par, sendReset_setSt, enterClosed_setSt, rtoAsked_setSt, rtoAnswer_setSt, updSock_setSt,
    sendAck_setSt, sendSegment_setSt, done_setSt, drop_setSt]
  split
  · split <;> rfl
  · rfl

@[simp] theorem tcpEstablished_setSt : tcpEstablished i x a b g (setSt s c) = tcpEstablished i x a b g s := by
  unfold tcpEstablished
  rw [std4_setSt, andThen_flowSt c fun t => by simp]

@[simp] theorem tcpSynRcvd_setSt : tcpSynRcvd i x a b g (setSt s c) = tcpSynRcvd i x a b g s := by
  unfold tcpSynRcvd
  rw [std3_setSt, andThen_flowSt c fun t => by simp]

@[simp] theorem tcpCloseWait_setSt : tcpCloseWait i x a b g (setSt s c) = tcpCloseWait i x a b g s := by
  unfold tcpCloseWait
  rw [std4_setSt, andThen_flowSt c fun t => by simp]

@[simp] theorem tcpLastAck_setSt : tcpLastAck i x a b g (setSt s c) = tcpLastAck i x a b g s := by
  unfold tcpLastAck
  rw [std3_setSt, andThen_flowSt c fun t => by simp]

@[simp] theorem tcpFinWait1_setSt : tcpFinWait1 i x a b g (setSt s c) = tcpFinWait1 i x a b g s := by
  unfold tcpFinWait1
  rw [std4_setSt, andThen_flowSt c fun t => by simp]

@[simp] theorem tcpFinWait2_setSt : tcpFinWait2 i x a b g (setSt s c) = tcpFinWait2 i x a b g s := by
  unfold tcpFinWait2
  rw [std4_setSt, andThen_flowSt c fun t => by simp]

@[simp] theorem tcpClosing_setSt : tcpClosing i x a b g (setSt s c) = tcpClosing i x a b g s := by
  unfold tcpClosing
  rw [std4_setSt, andThen_flowSt c fun t => rfl]

@[simp] theorem tcpTimeWait_setSt : tcpTimeWait i g (setSt s c) = tcpTimeWait i g s := by simp [tcpTimeWait]

@[simp] theorem tcpDispatch_setSt : tcpDispatch i x a b g (setSt s c) = tcpDispatch i x a b g s := by
  unfold tcpDispatch
  rw [setSt_sock]
  split <;> simp

end flows

/-! Receiving. -/

@[simp] theorem receiveTcp_setSt (x : Byte) (a b : Word) (seg : Bytes) :
    receiveTcp x a b seg (setSt s c) = receiveTcp x a b seg s := by
  unfold receiveTcp
  simp only [setR0_setSt, setSt_par, findTcp_setSt, lookupEnd_setSt, drop_setSt]

/-- The report of an unmatched segment reads the `ST` that TCPRX has written (41_ip_admission.md R167). -/
@[simp] theorem demux_setSt (x : Byte) (d : Bytes) : demux x d (setSt s c) = demux x d s := by
  simp [demux, demuxTcp, handUp]

@[simp] theorem reassemble_setSt (x : Byte) (d : Bytes) : reassemble x d (setSt s c) = reassemble x d s := by
  unfold reassemble
  simp only [setSt_now, setSt_iface, setSt_par, setSlot_setSt, releaseSlot_setSt, demux_setSt, done_setSt, drop_setSt]

@[simp] theorem admitWhole_setSt (x : Byte) (d : Bytes) : admitWhole x d (setSt s c) = admitWhole x d s := by
  simp [admitWhole]

@[simp] theorem admitTrimmed_setSt (x : Byte) (d : Bytes) : admitTrimmed x d (setSt s c) = admitTrimmed x d s := by
  unfold admitTrimmed
  simp only [setSt_iface, setSt_par, admitWhole_setSt, pushUp_setSt, done_setSt, drop_setSt]

@[simp] theorem admitPacket_setSt (x : Byte) (p : Bytes) : admitPacket x p (setSt s c) = admitPacket x p s := by
  simp [admitPacket]

/-! The sweeps. -/

theorem sweepSlots_setSt (i n j : Nat) : sweepSlots i n j (setSt s c) = setSt (sweepSlots i n j s) c := by
  induction n generalizing j s with
  | zero => rfl
  | succ n ih =>
    simp only [sweepSlots, setSt_slot, sweepEvicts_setSt, evict_setSt, setSt_r0, setR0_setSt]
    split <;> rw [ih]

@[simp] theorem fragTick_setSt (i : Nat) : fragTick i (setSt s c) = fragTick i s := by
  simp [fragTick, sweepSlots_setSt]

theorem fragTicks_setSt (n i : Nat) : ∃ c', fragTicks n i (setSt s c) = setSt (fragTicks n i s) c' := by
  cases n with
  | zero => exact ⟨c, rfl⟩
  | succ n => exact ⟨_, by rw [fragTicks, fragTick_setSt]; rfl⟩

theorem tickSock_setSt (i : Nat) : ∃ c', tickSock i (setSt s c) = setSt (tickSock i s) c' := by
  unfold tickSock
  simp only [setSt_sock, tickCloses_setSt, enterClosed_setSt, sendAck_setSt]
  split
  · exact ⟨c, rfl⟩
  · split
    · exact ⟨_, (setSt_self _).symm⟩
    · exact ⟨c, rfl⟩

theorem tickSocks_setSt (n i m : Nat) :
    ∃ c', tickSocks n i m (setSt s c) = (setSt (tickSocks n i m s).1 c', (tickSocks n i m s).2) := by
  induction n generalizing i m s c with
  | zero => exact ⟨c, rfl⟩
  | succ n ih =>
    obtain ⟨c', h⟩ := tickSock_setSt s c i
    simp only [tickSocks, setSt_sock, tickCloses_setSt, h]
    exact ih ..

@[simp] theorem tcpTick_setSt : tcpTick (setSt s c) = tcpTick s := by
  obtain ⟨c', h⟩ := tickSocks_setSt s c s.par.nSock 0 0
  simp [tcpTick, h]

@[simp] theorem periodicTick_setSt : periodicTick (setSt s c) = periodicTick s := by
  obtain ⟨c', h⟩ := fragTicks_setSt (advanceNow s) c s.par.nIf 0
  simp [periodicTick, h]

/-! The socket operations. -/

section sockets
variable (i : Nat)

@[simp] theorem sockOpen_setSt (k : SockType) : sockOpen k (setSt s c) = sockOpen k s := by
  unfold sockOpen
  simp only [freeSock_setSt, setSock_setSt, setR0_setSt, done_setSt, drop_setSt]

@[simp] theorem sockBind_setSt (p : Half) : sockBind i p (setSt s c) = sockBind i p s := rfl

@[simp] theorem sockListen_setSt (p : Half) : sockListen i p (setSt s c) = sockListen i p s := rfl

@[simp] theorem sockConnect_setSt (p : Half) : sockConnect i p (setSt s c) = sockConnect i p s := by
  unfold sockConnect
  simp only [setSt_sock, setSt_reg, setSt_iface, setSt_par, setSock_setSt, sendSegment_setSt, drop_setSt]

@[simp] theorem sockAccept_setSt : sockAccept i (setSt s c) = sockAccept i s := by
  unfold sockAccept
  simp only [setSt_sock, setSt_reg, setSt_par, freeSock_setSt, rtoAsked_setSt, rtoAnswer_setSt, setSock_setSt,
    sendSegment_setSt, setR0_setSt, done_setSt, drop_setSt]

@[simp] theorem sendFin_setSt (st : TcpState) : sendFin i st (setSt s c) = sendFin i st s := by
  unfold sendFin
  simp only [updSock_setSt, setSt_sock, sendSegment_setSt]

@[simp] theorem sockShut_setSt : sockShut i (setSt s c) = sockShut i s := by
  unfold sockShut
  simp only [setSt_sock, sendFin_setSt, drop_setSt]

theorem letGo_setSt : ∃ c', letGo i (setSt s c) = setSt (letGo i s) c' := by
  unfold letGo
  simp only [setSt_sock, recycle_setSt, sendFin_setSt]
  split
  · exact ⟨c, rfl⟩
  · split
    case h_4 | h_5 | h_6 => exact ⟨_, (setSt_self _).symm⟩
    all_goals exact ⟨c, rfl⟩

@[simp] theorem sockClose_setSt : sockClose i (setSt s c) = sockClose i s := by
  obtain ⟨c', h⟩ := letGo_setSt (setSock s i { s.sock i with owned := false }) c i
  simp [sockClose, h]

@[simp] theorem sockRecv_setSt (n : Half) : sockRecv i n (setSt s c) = sockRecv i n s := rfl

end sockets

/-! The commands. -/

/-- A command whose body, run on legal operands, forgets `ST` reads neither `ST` nor `R0`: it writes `R0` first. -/
theorem runCommand_blind {s : State} {l g : Bool} {rs : List (Fin 8)} {b : State → State} {v : Word} {c : Byte}
    (hb : g = true → b (setSt (setR0 s 0) c) = b (setR0 s 0)) :
    (.next (runCommand { s with r0 := v, st := c } l rs g b) : Host.Outcome State Fault Refusal) =
      .next (runCommand s l rs g b) := by
  congr 1
  rcases Bool.eq_false_or_eq_true g with hg | hg
  · have run : b (setR0 { s with r0 := v, st := c } 0) = b (setR0 s 0) := hb hg
    simp only [runCommand, run]
    rfl
  · simp only [runCommand, hg]
    rfl

/-- The same where the test is that an operand names something. -/
theorem runCommand_blind_some {α : Type} {s : State} {l : Bool} {o : Option α} {rs : List (Fin 8)} {b : State → State}
    {v : Word} {c : Byte} (hb : ∀ x, o = some x → b (setSt (setR0 s 0) c) = b (setR0 s 0)) :
    (.next (runCommand { s with r0 := v, st := c } l rs o.isSome b) : Host.Outcome State Fault Refusal) =
      .next (runCommand s l rs o.isSome b) := by
  refine runCommand_blind fun ho => ?_
  obtain ⟨x, hx⟩ := Option.isSome_iff_exists.mp ho
  exact hb x hx

/-- Settles O15: every command is `runCommand` of a body that forgets `ST`. -/
theorem resultAndStatusAreNoInputs : Obligations.ResultAndStatusAreNoInputs := by
  unfold Obligations.ResultAndStatusAreNoInputs
  intro i s v c hi
  cases i with
  | nop => exact runCommand_blind fun _ => rfl
  | csum => exact runCommand_blind fun _ => rfl
  | csumx => exact runCommand_blind fun _ => rfl
  | csumul => exact runCommand_blind fun _ => rfl
  | iprx => exact runCommand_blind fun _ => admitPacket_setSt ..
  | iptx => exact runCommand_blind fun _ => sendIp_setSt ..
  | fragtick => exact runCommand_blind fun _ => fragTick_setSt ..
  | lookupt => exact runCommand_blind fun _ => lookupEnd_setSt ..
  | lookupu => exact runCommand_blind fun _ => lookupEnd_setSt ..
  | tcptick => exact runCommand_blind fun _ => tcpTick_setSt ..
  | lock =>
    refine runCommand_blind fun _ => ?_
    rw [setSt_lock, setR0_lock]
    split <;> rfl
  | unlock => exact runCommand_blind fun _ => rfl
  | tick => exact runCommand_blind fun _ => periodicTick_setSt ..
  | crrd x y =>
    refine runCommand_blind_some (o := controlRegOperand s x y) fun r hr => ?_
    rw [controlRegOperand_setSt, controlRegOperand_setR0, hr]
    rfl
  | crwr x y =>
    refine runCommand_blind_some (o := controlWriteOperand s x y) fun f hf => ?_
    rw [controlWriteOperand_setSt, controlWriteOperand_setR0, hf]
    rfl
  | skrd => exact runCommand_blind fun _ => rfl
  | seta => exact runCommand_blind_some fun _ hx => by rw [hx]; rfl
  | geta => exact runCommand_blind_some fun _ hx => by rw [hx]; rfl
  | drain => exact runCommand_blind_some fun _ hx => by rw [hx]; rfl
  | sopen => exact runCommand_blind fun _ => sockOpen_setSt ..
  | sbind => exact runCommand_blind fun _ => sockBind_setSt ..
  | slisten => exact runCommand_blind fun _ => sockListen_setSt ..
  | sconnect => exact runCommand_blind fun _ => sockConnect_setSt ..
  | saccept => exact runCommand_blind fun _ => sockAccept_setSt ..
  | sshut => exact runCommand_blind fun _ => sockShut_setSt ..
  | sclose => exact runCommand_blind fun _ => sockClose_setSt ..
  | srecv => exact runCommand_blind fun _ => sockRecv_setSt ..
  | _ => cases hi

end Sys2Proof.Proofs
end

section
/-! Sequence numbers and the out-of-order store (00_scope.md R11; 10_state.md R37): what the two loops of `deliver` make
of a record (44_tcp_fsm.md R229). -/

namespace Sys2Proof.Proofs

open Machine Claims

/-! Sequence numbers. -/

/-- An acknowledgement in `[sndUna, sndNxt]` leaves at most as much unacknowledged as there was (44_tcp_fsm.md R228). -/
theorem sub_ack_le {una nxt ack : Word} (h : (nxt - una).toNat ≤ 2) (hle : seqGT ack nxt = false)
    (hge : seqGE ack una = true) : (nxt - ack).toNat ≤ (nxt - una).toNat := by
  simp only [seqGT, seqGE, seqLE, seqLT, BitVec.msb_eq_decide, Bool.or_eq_true, beq_iff_eq, decide_eq_true_eq,
    decide_eq_false_iff_not] at hle hge
  rcases hge with rfl | hge
  · exact Nat.le_refl _
  · bv_omega

/-- A number that the tests of `deliver` find in a window that is not closed lies less than the window above its
lower edge (44_tcp_fsm.md R229). -/
theorem sub_lt_of_inWindow {q n : Word} {w : Half} (hw : w ≠ 0) (hge : seqGE q n = true)
    (hlt : seqLT q (n + w.setWidth 32) = true) : (q - n).toNat < w.toNat := by
  have hw' : 0 < w.toNat := by
    rw [Nat.pos_iff_ne_zero]
    exact fun h => hw (BitVec.eq_of_toNat_eq h)
  simp only [seqGE, seqLE, seqLT, BitVec.msb_eq_decide, Bool.or_eq_true, beq_iff_eq, decide_eq_true_eq] at hge hlt
  rcases hge with rfl | hge
  · simpa using hw'
  · bv_omega

/-- One number further up, the distance to a higher number is one less. -/
theorem sub_succ_toNat {q n : Word} (h : q ≠ n) : (q - (n + 1)).toNat + 1 = (q - n).toNat := by
  have : q.toNat ≠ n.toNat := fun e => h (BitVec.eq_of_toNat_eq e)
  bv_omega

/-! The store. -/

/-- The keys rise and lie in the window of `w` numbers from `n` on. -/
structure Windowed (n : Word) (w : Nat) (l : List (Word × Byte)) : Prop where
  rising : l.Pairwise fun x y => x.1 < y.1
  inside : ∀ x ∈ l, (x.1 - n).toNat < w

theorem Windowed.nil (n : Word) (w : Nat) : Windowed n w [] := ⟨.nil, fun _ h => nomatch h⟩

theorem mem_oooSet {l : List (Word × Byte)} {q : Word} {b : Byte} {x : Word × Byte} (h : x ∈ oooSet l q b) :
    x = (q, b) ∨ x ∈ l := by
  induction l with
  | nil => exact .inl (List.mem_singleton.mp h)
  | cons y rest ih =>
    obtain ⟨k, v⟩ := y
    unfold oooSet at h
    split at h
    · exact List.mem_cons.mp h
    · split at h
      · rcases List.mem_cons.mp h with h | h
        · exact .inl h
        · exact .inr (List.mem_cons_of_mem _ h)
      · rcases List.mem_cons.mp h with h | h
        · exact .inr (h ▸ List.mem_cons_self)
        · exact (ih h).imp_right (List.mem_cons_of_mem _)

theorem oooSet_rising {l : List (Word × Byte)} (q : Word) (b : Byte) (h : l.Pairwise fun x y => x.1 < y.1) :
    (oooSet l q b).Pairwise fun x y => x.1 < y.1 := by
  induction l with
  | nil => exact List.pairwise_singleton _ _
  | cons y rest ih =>
    obtain ⟨k, v⟩ := y
    obtain ⟨hk, hrest⟩ := List.pairwise_cons.mp h
    unfold oooSet
    split
    · rename_i hq
      refine List.pairwise_cons.mpr ⟨fun x hx => ?_, h⟩
      rcases List.mem_cons.mp hx with rfl | hx
      · exact hq
      · exact BitVec.lt_trans hq (hk x hx)
    · split
      · rename_i hq
        exact List.pairwise_cons.mpr ⟨fun x hx => hq ▸ hk x hx, hrest⟩
      · rename_i hlt hne
        refine List.pairwise_cons.mpr ⟨fun x hx => ?_, ih hrest⟩
        rcases mem_oooSet hx with rfl | hx
        · exact BitVec.lt_of_le_ne (BitVec.not_lt.mp hlt) fun e => hne e.symm
        · exact hk x hx

theorem Windowed.oooSet {n : Word} {w : Nat} {l : List (Word × Byte)} (h : Windowed n w l) {q : Word} (b : Byte)
    (hq : (q - n).toNat < w) : Windowed n w (oooSet l q b) := by
  refine ⟨oooSet_rising q b h.rising, fun x hx => ?_⟩
  rcases mem_oooSet hx with rfl | hx
  · exact hq
  · exact h.inside x hx

/-- The first loop of `deliver` stores nothing outside a window that is not closed. -/
theorem Windowed.storePayload {n : Word} {w : Half} (hw : w ≠ 0) (pay : Bytes) (q : Word) {l : List (Word × Byte)}
    (h : Windowed n w.toNat l) : Windowed n w.toNat (storePayload n (n + w.setWidth 32) q pay l) := by
  induction pay generalizing q l with
  | nil => exact h
  | cons b rest ih =>
    refine ih _ ?_
    split
    · rename_i hq
      obtain ⟨hge, hlt⟩ := Bool.and_eq_true_iff.mp hq
      exact h.oooSet b (sub_lt_of_inWindow hw hge hlt)
    · exact h

theorem oooGet_none {l : List (Word × Byte)} {q : Word} (h : oooGet l q = none) : ∀ x ∈ l, x.1 ≠ q := by
  induction l with
  | nil => exact fun _ hx => nomatch hx
  | cons y rest ih =>
    obtain ⟨k, v⟩ := y
    unfold oooGet at h
    split at h
    · cases h
    · rename_i hk
      intro x hx
      rcases List.mem_cons.mp hx with rfl | hx
      · exact hk
      · exact ih h x hx

/-- A key that is found is held; taking it away leaves the other keys, one fewer than there were. -/
theorem oooErase_of_get {l : List (Word × Byte)} {q : Word} {b : Byte} (hr : l.Pairwise fun x y => x.1 < y.1)
    (h : oooGet l q = some b) :
    (q, b) ∈ l ∧ (oooErase l q).length + 1 = l.length ∧ (oooErase l q).Sublist l ∧ ∀ x ∈ oooErase l q, x.1 ≠ q := by
  induction l with
  | nil => cases h
  | cons y rest ih =>
    obtain ⟨k, v⟩ := y
    obtain ⟨hk, hrest⟩ := List.pairwise_cons.mp hr
    unfold oooGet at h
    unfold oooErase
    split
    · rename_i hkq
      rw [if_pos hkq] at h
      cases h
      refine ⟨hkq ▸ List.mem_cons_self, rfl, List.sublist_cons_self .., fun x hx => ?_⟩
      exact fun e => BitVec.lt_irrefl q (by simpa [hkq, e] using hk x hx)
    · rename_i hkq
      rw [if_neg hkq] at h
      obtain ⟨hmem, hlen, hsub, hne⟩ := ih hrest h
      refine ⟨List.mem_cons_of_mem _ hmem, congrArg Nat.succ hlen, hsub.cons_cons _, fun x hx => ?_⟩
      rcases List.mem_cons.mp hx with rfl | hx
      · exact hkq
      · exact hne x hx

/-- The second loop of `deliver`: with a turn for every key it ends where no byte waits at `rcvNxt`. It keeps the sum
of what is received and the window, and what is still held lies in the window. -/
theorem moveContiguous_spec (r n : Nat) (k : Sock) (hroom : k.rxq.length + k.rcvWnd.toNat ≤ r)
    (hwin : Windowed k.rcvNxt k.rcvWnd.toNat k.ooo) (hfuel : k.ooo.length ≤ n) :
    ∃ a o q w, moveContiguous n k = { k with rxq := a, ooo := o, rcvNxt := q, rcvWnd := w } ∧
      a.length + w.toNat ≤ r ∧ Windowed q w.toNat o ∧ ∀ x ∈ o, x.1 ≠ q := by
  induction n generalizing k with
  | zero =>
    have hnil : k.ooo = [] := List.eq_nil_of_length_eq_zero (Nat.le_zero.mp hfuel)
    exact ⟨_, _, _, _, rfl, hroom, hwin, by simp [hnil]⟩
  | succ n ih =>
    unfold moveContiguous
    split
    · rename_i hnone
      exact ⟨_, _, _, _, rfl, hroom, hwin, oooGet_none hnone⟩
    · rename_i b hsome
      obtain ⟨hmem, hlen, hsub, hne⟩ := oooErase_of_get hwin.rising hsome
      have hpos : 0 < k.rcvWnd.toNat := Nat.lt_of_le_of_lt (Nat.zero_le _) (hwin.inside _ hmem)
      have hwnd : (k.rcvWnd - 1).toNat + 1 = k.rcvWnd.toNat := by bv_omega
      obtain ⟨a, o, q, w, e, hroom', hwin', hgap⟩ := ih
        { k with
          rxq := k.rxq ++ [b], ooo := oooErase k.ooo k.rcvNxt, rcvNxt := k.rcvNxt + 1, rcvWnd := k.rcvWnd - 1 }
        (by simp only [List.length_append, List.length_singleton]; omega)
        ⟨hwin.rising.sublist hsub, fun x hx => by
          have hin := hwin.inside x (hsub.subset hx)
          have := sub_succ_toNat (hne x hx)
          dsimp only
          omega⟩
        (by dsimp only; omega)
      exact ⟨a, o, q, w, e, hroom', hwin', hgap⟩

end Sys2Proof.Proofs
end

section
/-! The record invariant, record by record (10_state.md R31, R32, R35, R37): which changes of a record keep it. -/

namespace Sys2Proof.Proofs

open Machine Claims

/-- The record invariant but for its first two clauses, which speak of the record's type. -/
structure Core (p : Params) (k : Sock) : Prop where
  listener : k.state = .listen →
    1 ≤ k.synqMax.toNat ∧ k.synqMax.toNat ≤ p.synqMax ∧ k.synq.length ≤ k.synqMax.toNat
  backlog : k.state ≠ .listen → k.synqMax = 0 ∧ k.synq = []
  localLen : k.localAddr.len ≤ 4
  remoteLen : k.remoteAddr.len ≤ 4
  requests : ∀ e ∈ k.synq, e.srcAddr.len = 4 ∧ e.destAddr.len = 4
  room : k.rxq.length + k.rcvWnd.toNat ≤ p.rxWnd.toNat
  noneHeld : holdsOoo k.state = false → k.ooo = []
  held : oooInv p k
  gap : k.state = .established ∨ k.state = .finWait1 ∨ k.state = .finWait2 → ∀ x ∈ k.ooo, x.1 ≠ k.rcvNxt
  sent : (k.sndNxt - k.sndUna).toNat ≤ sentBound k.state

theorem sockInv_iff {p : Params} {k : Sock} :
    sockInv p k ↔ (k.type = .unused → k = Sock.reset) ∧ (k.type ≠ .stream → k.state = .closed) ∧ Core p k := by
  constructor
  · rintro ⟨free, stream, h₁, h₂, h₃, h₄, h₅, h₆, h₇, h₈, h₉, h₁₀⟩
    exact ⟨free, stream, h₁, h₂, h₃, h₄, h₅, h₆, h₇, h₈, h₉, h₁₀⟩
  · rintro ⟨free, stream, h₁, h₂, h₃, h₄, h₅, h₆, h₇, h₈, h₉, h₁₀⟩
    exact ⟨free, stream, h₁, h₂, h₃, h₄, h₅, h₆, h₇, h₈, h₉, h₁₀⟩

/-- A stream record that is sound, in a given state. -/
structure Live (p : Params) (st : TcpState) (k : Sock) : Prop where
  type : k.type = .stream
  state : k.state = st
  core : Core p k

section shape
variable {p : Params} {k : Sock} {st : TcpState}

theorem Live.sockInv (h : Live p st k) : sockInv p k :=
  sockInv_iff.mpr ⟨fun e => by simp [h.type] at e, fun e => absurd h.type e, h.core⟩

/-- `sndNxt` is at most as far ahead of `sndUna` as the state allows. -/
theorem Live.sent (h : Live p st k) : (k.sndNxt - k.sndUna).toNat ≤ sentBound st := h.state ▸ h.core.sent

/-- A sound stream record is live in its state. -/
theorem live_of_stream (h : sockInv p k) (ht : k.type = .stream) : Live p k.state k :=
  ⟨ht, rfl, (sockInv_iff.mp h).2.2⟩

/-- A sound record in another state than CLOSED is a stream record. -/
theorem live_of_state (h : sockInv p k) (hs : k.state ≠ .closed) : Live p k.state k :=
  live_of_stream h (by_contra fun e => hs ((sockInv_iff.mp h).2.1 e))

/-- Nothing held out of order is a sound store. -/
theorem oooInv_nil (h : k.ooo = []) : oooInv p k := by
  simp [oooInv, h]

/-- The clauses of `oooInv` besides the mode are those of a store in the window. -/
theorem oooInv_iff : oooInv p k ↔ (p.tcpOoo = .drop → k.ooo = []) ∧ Windowed k.rcvNxt k.rcvWnd.toNat k.ooo :=
  ⟨fun ⟨mode, rising, inside⟩ => ⟨mode, rising, inside⟩, fun ⟨mode, h⟩ => ⟨mode, h.rising, h.inside⟩⟩

/-- The invariant does not speak of the flags, the timers, the ports and the other fields of a connection. -/
theorem Live.ackPending (h : Live p st k) (b : Bool) : Live p st { k with ackPending := b } :=
  ⟨h.type, h.state, { h.core with }⟩

/-- A record that moves on from a state other than LISTEN, what the new state says of the store and of `sndNxt` being
true of it. -/
theorem Live.move (h : Live p st k) (hl : st ≠ .listen) {st' : TcpState} (hl' : st' ≠ .listen)
    (hnone : holdsOoo st' = false → k.ooo = [])
    (hgap : st' = .established ∨ st' = .finWait1 ∨ st' = .finWait2 → ∀ x ∈ k.ooo, x.1 ≠ k.rcvNxt)
    (hsent : (k.sndNxt - k.sndUna).toNat ≤ sentBound st') : Live p st' { k with state := st' } :=
  ⟨h.type, rfl,
    { h.core with
      listener := fun e => absurd e hl'
      backlog := fun _ => h.core.backlog (h.state ▸ hl)
      noneHeld := hnone
      gap := hgap
      sent := hsent }⟩

/-- A record that reaches CLOSED and is kept (44_tcp_fsm.md R234). -/
theorem Live.closed (h : Live p st k) (hl : st ≠ .listen) (r : Bool) : Live p .closed (closedRecord r k) :=
  ⟨h.type, rfl,
    { h.core with
      listener := fun e => nomatch e
      backlog := fun _ => h.core.backlog (h.state ▸ hl)
      noneHeld := fun _ => rfl
      held := oooInv_nil rfl
      gap := fun _ _ hx => nomatch hx
      sent := Nat.le_of_lt (BitVec.isLt _) }⟩

/-- A record that reaches TIME-WAIT at tick `now` (44_tcp_fsm.md R235). -/
theorem Live.timeWait (h : Live p st k) (hl : st ≠ .listen) (hb : sentBound st ≤ 2) (now : Word) :
    Live p .timeWait (waitFrom now k) :=
  ⟨h.type, rfl,
    { h.core with
      listener := fun e => nomatch e
      backlog := fun _ => h.core.backlog (h.state ▸ hl)
      noneHeld := fun _ => rfl
      held := oooInv_nil rfl
      gap := fun _ _ hx => nomatch hx
      sent := Nat.le_trans h.sent hb }⟩

/-- A record that takes an acknowledgement in `[sndUna, sndNxt]` and a window (44_tcp_fsm.md R228). -/
theorem Live.acked (h : Live p st k) (hb : sentBound st ≤ 2) {seg : Segment} (hle : seqGT seg.ack k.sndNxt = false)
    (hge : seqGE seg.ack k.sndUna = true) : Live p st (ackedRecord seg k) := by
  exact ⟨h.type, h.state,
    { h.core with
      sent := Nat.le_trans (sub_ack_le (Nat.le_trans h.sent hb) hle hge) h.core.sent }⟩

/-- A record that takes the payload of a segment, its window not being closed (44_tcp_fsm.md R229). -/
theorem Live.delivered (h : Live p st k) (hh : holdsOoo st = true) (hw : k.rcvWnd ≠ 0) (seg : Segment) :
    Live p st (deliveredRecord p seg k) := by
  obtain ⟨-, hwin⟩ := oooInv_iff.mp h.core.held
  have stored := Windowed.storePayload hw seg.pay seg.seq hwin
  obtain ⟨a, o, q, w, e, hroom, hwin', hgap⟩ := moveContiguous_spec p.rxWnd.toNat _
    { k with
      ackPending := true
      ooo := storePayload k.rcvNxt (k.rcvNxt + k.rcvWnd.setWidth 32) seg.seq seg.pay k.ooo }
    h.core.room stored (Nat.le_refl _)
  have holds : holdsOoo k.state ≠ false := by simp [h.state, hh]
  unfold deliveredRecord
  simp only [e]
  split
  · rename_i hmode
    exact ⟨h.type, h.state,
      { h.core with
        room := hroom
        noneHeld := fun hn => absurd hn holds
        held := oooInv_iff.mpr ⟨fun hd => by simp [hmode] at hd, hwin'⟩
        gap := fun _ => hgap }⟩
  · exact ⟨h.type, h.state,
      { h.core with
        room := hroom
        noneHeld := fun _ => rfl
        held := oooInv_nil rfl
        gap := fun _ _ hx => nomatch hx }⟩

/-- A record that takes a FIN and moves on to `st'`: no byte is held under the FIN's own number, so what is held
still lies in the window (44_tcp_fsm.md R230). -/
theorem Live.finTaken (h : Live p st k) (hst : st = .established ∨ st = .finWait1 ∨ st = .finWait2) {st' : TcpState}
    (hst' : st' = .closeWait ∨ st' = .closing) (hb : sentBound st ≤ sentBound st') :
    Live p st' { k with rcvNxt := k.rcvNxt + 1, ackPending := false, state := st' } := by
  obtain ⟨mode, hwin⟩ := oooInv_iff.mp h.core.held
  have hgap := h.core.gap (h.state.symm ▸ hst)
  have hl : st ≠ .listen := by rcases hst with rfl | rfl | rfl <;> decide
  have hl' : st' ≠ .listen := by rcases hst' with rfl | rfl <;> decide
  have hh : holdsOoo st' ≠ false := by rcases hst' with rfl | rfl <;> decide
  have hno : ¬ (st' = .established ∨ st' = .finWait1 ∨ st' = .finWait2) := by rcases hst' with rfl | rfl <;> decide
  exact ⟨h.type, rfl,
    { h.core with
      listener := fun e => absurd e hl'
      backlog := fun _ => h.core.backlog (h.state ▸ hl)
      noneHeld := fun e => absurd e hh
      held := oooInv_iff.mpr ⟨mode, hwin.rising, fun x hx => by
        have := hwin.inside x hx
        have := sub_succ_toNat (hgap x hx)
        dsimp only
        omega⟩
      gap := fun e => absurd e hno
      sent := Nat.le_trans h.sent hb }⟩

/-- The states from which our FIN is sent, and the states it leads to (45_host_ops.md R295, R296). -/
def finMoves (st st' : TcpState) : Prop :=
  ((st = .synRcvd ∨ st = .established) ∧ st' = .finWait1) ∨ (st = .closeWait ∧ st' = .lastAck)

/-- A record whose FIN is sent. -/
theorem Live.finSent (h : Live p st k) {st' : TcpState} (hst : finMoves st st') :
    Live p st' { k with state := st', sndNxt := k.sndNxt + 1 } := by
  have hl : st ≠ .listen := by rcases hst with ⟨rfl | rfl, rfl⟩ | ⟨rfl, rfl⟩ <;> decide
  have hl' : st' ≠ .listen := by rcases hst with ⟨-, rfl⟩ | ⟨-, rfl⟩ <;> decide
  have hh : holdsOoo st' ≠ false := by rcases hst with ⟨-, rfl⟩ | ⟨-, rfl⟩ <;> decide
  have hgap : st' = .established ∨ st' = .finWait1 ∨ st' = .finWait2 → ∀ x ∈ k.ooo, x.1 ≠ k.rcvNxt := by
    rcases hst with ⟨rfl | rfl, -⟩ | ⟨-, rfl⟩
    · simp [h.core.noneHeld (h.state ▸ rfl)]
    · exact fun _ => h.core.gap (.inl h.state)
    · exact fun e => absurd e (by decide)
  have before : (k.sndNxt - k.sndUna).toNat ≤ 1 := by
    have : sentBound st = 1 := by rcases hst with ⟨rfl | rfl, -⟩ | ⟨rfl, -⟩ <;> rfl
    exact this ▸ h.sent
  have after : sentBound st' = 2 := by rcases hst with ⟨-, rfl⟩ | ⟨-, rfl⟩ <;> rfl
  have one : (k.sndNxt + 1 - k.sndUna).toNat ≤ 2 := by bv_omega
  exact ⟨h.type, rfl,
    { h.core with
      listener := fun e => absurd e hl'
      backlog := fun _ => h.core.backlog (h.state ▸ hl)
      noneHeld := fun e => absurd e hh
      gap := hgap
      sent := after ▸ one }⟩

/-- A listener with other requests, no more than its backlog bound (10_state.md R35, R36). -/
theorem Live.queued (h : Live p .listen k) {l : List SynEntry} (hlen : l.length ≤ k.synqMax.toNat)
    (hl : ∀ e ∈ l, e.srcAddr.len = 4 ∧ e.destAddr.len = 4) : Live p .listen { k with synq := l } :=
  ⟨h.type, h.state,
    { h.core with
      listener := fun e =>
        have ⟨hone, hmax, _⟩ := h.core.listener e
        ⟨hone, hmax, hlen⟩
      backlog := fun e => absurd h.state e
      requests := hl }⟩

/-- The record of an active open whose peer has sent its SYN: to SYN-RECEIVED, or, where the SYN acknowledges ours, to
ESTABLISHED (44_tcp_fsm.md R242). -/
theorem Live.synTaken (h : Live p .synSent k) (q : Params) (seg : Segment) (rto : Word) :
    Live p .synRcvd { synRecord q seg rto k with state := .synRcvd } ∧
    (seg.ack = k.sndNxt →
      Live p .established { synRecord q seg rto k with sndUna := seg.ack, state := .established }) := by
  have hno : k.ooo = [] := h.core.noneHeld (h.state ▸ rfl)
  have backlog := h.core.backlog (by simp [h.state])
  refine ⟨⟨h.type, rfl, ?_⟩, fun hack => ⟨h.type, rfl, ?_⟩⟩
  · exact { h.core with
      listener := fun e => nomatch e
      backlog := fun _ => backlog
      noneHeld := fun _ => hno
      held := oooInv_nil hno
      gap := fun _ x hx => by simp [synRecord, hno] at hx
      sent := h.sent }
  · exact { h.core with
      listener := fun e => nomatch e
      backlog := fun _ => backlog
      noneHeld := fun _ => hno
      held := oooInv_nil hno
      gap := fun _ x hx => by simp [synRecord, hno] at hx
      sent := by simp [synRecord, hack] }

/-- The record of SYN-RECEIVED once its SYN is acknowledged (44_tcp_fsm.md R243). -/
theorem Live.opened (h : Live p .synRcvd k) (seg : Segment) : Live p .established (openedRecord seg k) := by
  have hno : k.ooo = [] := h.core.noneHeld (h.state ▸ rfl)
  have m := h.move (by decide) (st' := .established) (by decide) (fun _ => hno) (by simp [hno]) h.sent
  exact ⟨m.type, rfl, { m.core with }⟩

/-- The record of FIN-WAIT-1 once its FIN is acknowledged (44_tcp_fsm.md R247). -/
theorem Live.finAcked (h : Live p .finWait1 k) (tm : Timer) :
    Live p .finWait2 { k with state := .finWait2, tFw2 := tm } := by
  have m := h.move (by decide) (st' := .finWait2) (by decide) (fun e => nomatch e)
    (fun _ => h.core.gap (.inr (.inl h.state))) h.sent
  exact ⟨m.type, rfl, { m.core with }⟩

end shape

end Sys2Proof.Proofs
end

section
/-! The record invariant, operation by operation: the TCP state machine, the socket operations and the tick. -/

namespace Sys2Proof.Proofs

open Machine Claims

/-- The parameters are `p` and every record is sound; past the table a record reads as one at reset. -/
structure RecordsSound (p : Params) (t : State) : Prop where
  par : t.par = p
  sock : ∀ j, sockInv p (t.sock j)

/-- The parameters are `p`, record `i` is there and has `Q`, and the other records are sound. -/
structure At (p : Params) (i : Nat) (Q : Sock → Prop) (t : State) : Prop where
  par : t.par = p
  lt : i < t.socks.length
  record : Q (t.sock i)
  others : ∀ j, j ≠ i → sockInv p (t.sock j)

section states
variable {p : Params} {i : Nat} {Q Q' : Sock → Prop} {t u : State}

theorem recordsSound_iff : RecordsSound p t ↔ t.par = p ∧ socksInv t := by
  constructor
  · rintro ⟨rfl, h⟩
    refine ⟨rfl, fun k hk => ?_⟩
    obtain ⟨j, hj, rfl⟩ := List.getElem_of_mem hk
    have := h j
    rwa [State.sock, List.getD_eq_getElem _ _ hj] at this
  · rintro ⟨rfl, h⟩
    refine ⟨rfl, fun j => ?_⟩
    by_cases hj : j < t.socks.length
    · rw [State.sock, List.getD_eq_getElem _ _ hj]
      exact h _ (List.getElem_mem hj)
    · rw [State.sock, List.getD_eq_default _ _ (by omega)]
      exact sockInv_reset _

theorem RecordsSound.congr (h : RecordsSound p t) (hp : u.par = t.par) (hs : u.socks = t.socks) : RecordsSound p u :=
  ⟨hp.trans h.par, fun j => sock_congr t u hs j ▸ h.sock j⟩

theorem At.congr (h : At p i Q t) (hp : u.par = t.par) (hs : u.socks = t.socks) : At p i Q u :=
  ⟨hp.trans h.par, hs ▸ h.lt, sock_congr t u hs i ▸ h.record, fun j hj => sock_congr t u hs j ▸ h.others j hj⟩

/-- A property of the parameters and the records survives what writes neither. -/
theorem ordinary_of_congr {P : State → Prop} (hc : ∀ {t u}, P t → u.par = t.par → u.socks = t.socks → P u) :
    Ordinary P where
  setR0 h _ := hc h rfl rfl
  setOut h _ := hc h rfl rfl
  count h _ := hc h rfl rfl
  done h _ := hc h rfl rfl
  raiseIcmp h _ _ _ _ _ := hc h rfl rfl
  signal h _ _ := hc h rfl rfl
  pushUp h _ := hc h rfl rfl
  advanceId h _ := hc h rfl rfl
  emitState h _ := hc h (emitState_par ..) (emitState_socks ..)
  rtoAsked h := hc h (rtoAsked_par _) (rtoAsked_socks _)
  deferAsked h := hc h (deferAsked_par _) (deferAsked_socks _)

theorem recordsSound_ordinary : Ordinary (RecordsSound p) := ordinary_of_congr RecordsSound.congr

theorem at_ordinary : Ordinary (At p i Q) := ordinary_of_congr At.congr

/-- Record `i` written while the others are sound. -/
theorem At.set (h : At p i Q t) {k : Sock} (hk : Q' k) : At p i Q' (setSock t i k) :=
  ⟨h.par, by simpa using h.lt, by rwa [sock_setSock_same t i k h.lt], fun j hj => by
    rw [sock_setSock_other t i j k hj]
    exact h.others j hj⟩

theorem At.upd (h : At p i Q t) {g : Sock → Sock} (hg : ∀ k, Q k → Q' (g k)) : At p i Q' (updSock t i g) :=
  h.set (hg _ h.record)

theorem At.sound (h : At p i Q t) (hQ : ∀ k, Q k → sockInv p k) : RecordsSound p t :=
  ⟨h.par, fun j => by
    by_cases hj : j = i
    · exact hj ▸ hQ _ h.record
    · exact h.others j hj⟩

theorem At.live_sound {st : TcpState} (h : At p i (Live p st) t) : RecordsSound p t := h.sound fun _ hk => hk.sockInv

theorem RecordsSound.set (h : RecordsSound p t) (i : Nat) {k : Sock} (hk : sockInv p k) :
    RecordsSound p (setSock t i k) := by
  by_cases hi : i < t.socks.length
  · exact At.sound (Q := sockInv p) (At.set ⟨h.par, hi, h.sock i, fun j _ => h.sock j⟩ hk) fun _ hk => hk
  · exact h.congr rfl (by simp [List.set_eq_of_length_le (Nat.le_of_not_lt hi)])

/-- A record in another state than CLOSED is there, and it is live. -/
theorem RecordsSound.live (h : RecordsSound p t) (hs : (t.sock i).state ≠ .closed) :
    At p i (Live p (t.sock i).state) t := by
  refine ⟨h.par, by_contra fun hi => hs ?_, live_of_state (h.sock i) hs, fun j _ => h.sock j⟩
  rw [State.sock, List.getD_eq_default _ _ (Nat.le_of_not_lt hi)]
  rfl

end states

/-! The shared steps of the state machine. -/

/-- A record that is live in `st`, and its window is not closed where `seg` has a payload: what `seqCheck` lets
through (44_tcp_fsm.md R225). -/
def Takes (p : Params) (st : TcpState) (seg : Segment) (k : Sock) : Prop :=
  Live p st k ∧ (seg.pay ≠ [] → k.rcvWnd ≠ 0)

/-- A flow that goes on has `Q` of record `i`, the others being sound; where it has ended all are. -/
def FlowSound (p : Params) (i : Nat) (Q : Sock → Prop) : Flow → Prop
  | .go t => At p i Q t
  | .ended t => RecordsSound p t

section flows
variable {p : Params} {i : Nat} {Q Q' : Sock → Prop} {f : Flow} {k : State → Flow}

theorem FlowSound.andThen (h : FlowSound p i Q f) (hk : ∀ t, At p i Q t → FlowSound p i Q' (k t)) :
    FlowSound p i Q' (f.andThen k) := by
  cases f with
  | go t => exact hk t h
  | ended t => exact h

theorem FlowSound.finish (h : FlowSound p i Q f) (hk : ∀ t, At p i Q t → RecordsSound p (k t).state) :
    RecordsSound p (f.andThen k).state := by
  cases f with
  | go t => exact hk t h
  | ended t => exact h

end flows

/-- A segment with a payload is acceptable only where the window is not closed (44_tcp_fsm.md R225). -/
theorem rcvWnd_ne_zero_of_acceptable {k : Sock} {seg : Segment} (h : acceptable k seg = true) (hp : seg.pay ≠ []) :
    k.rcvWnd ≠ 0 := by
  intro hw
  have hlen : segLen seg ≠ 0 := by
    have := List.length_pos_iff.mpr hp
    unfold segLen
    omega
  simp [acceptable, hlen, hw] at h

section steps
variable {p : Params} {i : Nat} {st : TcpState} {t : State}

theorem At.enterClosed (h : At p i (Live p st) t) (hl : st ≠ .listen) (r : Bool) :
    RecordsSound p (enterClosed i r t) := by
  unfold Machine.enterClosed
  split
  · exact (h.upd fun _ hk => hk.closed hl r).live_sound
  · exact h.live_sound.set i (sockInv_reset p)

theorem At.enterTimeWait (h : At p i (Live p st) t) (hl : st ≠ .listen) (hb : sentBound st ≤ 2) :
    At p i (Live p .timeWait) (enterTimeWait i t) :=
  h.upd fun _ hk => hk.timeWait hl hb t.now

variable (ifx : Byte) (src dst : Word) (seg : Segment)

theorem At.seqCheck (h : At p i (Live p st) t) : FlowSound p i (Takes p st seg) (seqCheck i seg t) := by
  unfold Machine.seqCheck
  split
  · rename_i hacc
    exact ⟨h.par, h.lt, ⟨h.record, rcvWnd_ne_zero_of_acceptable hacc⟩, h.others⟩
  · refine recordsSound_ordinary.drop ?_ _
    split
    · exact h.live_sound
    · exact recordsSound_ordinary.sendAck h.live_sound i

theorem At.takes_live (h : At p i (Takes p st seg) t) : At p i (Live p st) t :=
  ⟨h.par, h.lt, h.record.1, h.others⟩

theorem At.rstCheck (h : At p i (Takes p st seg) t) (hl : st ≠ .listen) :
    FlowSound p i (Takes p st seg) (rstCheck i seg t) := by
  unfold Machine.rstCheck
  split
  · exact recordsSound_ordinary.done ((h.takes_live seg).enterClosed hl true) _
  · exact h

theorem At.synCheck (h : At p i (Takes p st seg) t) (hl : st ≠ .listen) :
    FlowSound p i (Takes p st seg) (synCheck i ifx src dst seg t) := by
  unfold Machine.synCheck
  split
  · have hs := at_ordinary.sendReset (h.takes_live seg) ifx src dst seg
    refine recordsSound_ordinary.drop ?_ _
    split
    · exact hs.enterClosed hl true
    · exact hs.live_sound
  · exact h

theorem At.ackProc (h : At p i (Takes p st seg) t) (hb : sentBound st ≤ 2) :
    FlowSound p i (Takes p st seg) (ackProc i seg t) := by
  have sound := (h.takes_live seg).live_sound
  unfold Machine.ackProc
  split
  · split
    · exact recordsSound_ordinary.drop (recordsSound_ordinary.sendAck sound i) _
    · rename_i hle
      split
      · rename_i hge
        exact h.set ⟨h.record.1.acked hb (Bool.eq_false_iff.mpr hle) hge, h.record.2⟩
      · exact h
  · exact recordsSound_ordinary.drop sound _

theorem At.std3 (h : At p i (Live p st) t) (hl : st ≠ .listen) :
    FlowSound p i (Takes p st seg) (std3 i ifx src dst seg t) :=
  ((h.seqCheck seg).andThen fun _ g => g.rstCheck seg hl).andThen fun _ g => g.synCheck ifx src dst seg hl

theorem At.std4 (h : At p i (Live p st) t) (hl : st ≠ .listen) (hb : sentBound st ≤ 2) :
    FlowSound p i (Takes p st seg) (std4 i ifx src dst seg t) :=
  (h.std3 ifx src dst seg hl).andThen fun _ g => g.ackProc seg hb

omit ifx src dst in
theorem At.deliver (h : At p i (Takes p st seg) t) (hh : holdsOoo st = true) :
    At p i (Live p st) (deliver i seg t) := by
  unfold Machine.deliver
  split
  · exact h.takes_live seg
  · rename_i hpay
    have hk : At p i (Live p st) (setSock t i (deliveredRecord t.par seg (t.sock i))) :=
      h.set (h.par ▸ h.record.1.delivered hh (h.record.2 hpay) seg)
    dsimp only
    split
    · exact hk
    · exact at_ordinary.signal hk ..

omit ifx src dst in
/-- A FIN takes the record on to `st'`, or it leaves it as it is (44_tcp_fsm.md R230). -/
theorem At.finHandle (h : At p i (Live p st) t) (hst : st = .established ∨ st = .finWait1 ∨ st = .finWait2)
    {st' : TcpState} (hst' : st' = .timeWait ∨ st' = .closeWait ∨ st' = .closing) (hb : sentBound st ≤ sentBound st') :
    At p i (Live p st') (finHandle i seg st' t) ∨ At p i (Live p st) (finHandle i seg st' t) := by
  unfold Machine.finHandle
  split
  · refine .inl ?_
    have hl : st ≠ .listen := by rcases hst with rfl | rfl | rfl <;> decide
    have hb2 : sentBound st ≤ 2 := by rcases hst with rfl | rfl | rfl <;> decide
    have advanced : At p i (fun k' => ∃ k, Live p st k ∧ k' = { k with rcvNxt := k.rcvNxt + 1 })
        (updSock t i fun k => { k with rcvNxt := k.rcvNxt + 1 }) := h.upd fun k hk => ⟨k, hk, rfl⟩
    have acked : At p i (fun k' => ∃ k, Live p st k ∧ k' = { k with rcvNxt := k.rcvNxt + 1, ackPending := false })
        (updSock (sendAck i (updSock t i fun k => { k with rcvNxt := k.rcvNxt + 1 })) i fun k =>
          { k with ackPending := false }) :=
      (at_ordinary.sendAck advanced i).upd fun _ ⟨k, hk, e⟩ => ⟨k, hk, e ▸ rfl⟩
    dsimp only
    split
    · rename_i hw
      subst hw
      refine acked.upd fun _ ⟨k, hk, e⟩ => ?_
      have w := hk.timeWait hl hb2 0
      exact e ▸ ⟨w.type, rfl, { w.core with held := oooInv_nil rfl, gap := fun _ _ hx => nomatch hx }⟩
    · rename_i hw
      exact acked.upd fun _ ⟨k, hk, e⟩ => e ▸ hk.finTaken hst (hst'.resolve_left hw) hb
  · exact .inr h

omit seg ifx src dst in
theorem At.ackFlush (h : At p i (Live p st) t) : RecordsSound p (ackFlush i t) := by
  unfold Machine.ackFlush
  split
  · split
    · exact recordsSound_ordinary.deferAsked h.live_sound
    · exact ((at_ordinary.sendAck (at_ordinary.deferAsked h) i).upd fun _ hk => hk.ackPending false).live_sound
  · exact h.live_sound

omit ifx src dst in
/-- The end of the four operations that take a payload: the FIN, then the acknowledgement. -/
theorem At.finish (h : At p i (Live p st) t) (hst : st = .established ∨ st = .finWait1 ∨ st = .finWait2)
    {st' : TcpState} (hst' : st' = .timeWait ∨ st' = .closeWait ∨ st' = .closing) (hb : sentBound st ≤ sentBound st') :
    RecordsSound p (done (Machine.ackFlush i (Machine.finHandle i seg st' t)) .ok) := by
  refine recordsSound_ordinary.done ?_ _
  rcases h.finHandle seg hst hst' hb with g | g
  · exact g.ackFlush
  · exact g.ackFlush

/-! The state operations. -/

theorem recordsSound_tcpListen (h : At p i (Live p .listen) t) : RecordsSound p (tcpListen i ifx src dst seg t) := by
  have hs := h.live_sound
  have o := recordsSound_ordinary (p := p)
  unfold tcpListen
  dsimp only
  split
  · exact o.drop hs _
  · split
    · exact o.drop (o.sendReset hs ..) _
    · split
      · exact o.drop hs _
      · split
        · exact o.drop hs _
        · refine o.done (o.signal ?_ _ _) _
          obtain ⟨hone, hmax, hlen⟩ := h.record.core.listener h.record.state
          have hreq := h.record.core.requests
          split
          · refine o.count (At.live_sound (h.set (h.record.queued ?_ fun e he => ?_))) _
            · simp only [List.length_append, List.length_tail, List.length_singleton]
              omega
            · rcases List.mem_append.mp he with he | he
              · exact hreq e (List.mem_of_mem_tail he)
              · exact List.mem_singleton.mp he ▸ ⟨rfl, rfl⟩
          · rename_i hfull
            refine At.live_sound (h.set (h.record.queued ?_ fun e he => ?_))
            · simp only [List.length_append, List.length_singleton]
              omega
            · rcases List.mem_append.mp he with he | he
              · exact hreq e he
              · exact List.mem_singleton.mp he ▸ ⟨rfl, rfl⟩

theorem recordsSound_tcpSynSent (h : At p i (Live p .synSent) t) :
    RecordsSound p (tcpSynSent i ifx src dst seg t) := by
  have hs := h.live_sound
  have o := recordsSound_ordinary (p := p)
  unfold tcpSynSent
  split
  · refine o.drop ?_ _
    split
    · exact hs
    · exact o.sendReset hs ..
  · rename_i hack
    split
    · split
      · exact o.done (h.enterClosed (by decide) true) _
      · exact o.drop hs _
    · split
      · exact o.drop hs _
      · have syn : At p i (fun k' => ∃ k, Live p .synSent k ∧ k.sndNxt = (t.sock i).sndNxt ∧
            k' = synRecord t.par seg (rtoAnswer t) k)
            (updSock (rtoAsked t) i (synRecord t.par seg (rtoAnswer t))) :=
          At.set (at_ordinary.rtoAsked h) ⟨_, h.record, rfl, by rw [rtoAsked_sock]⟩
        dsimp only
        split
        · rename_i hflag
          have heq : seg.ack = (t.sock i).sndNxt := by_contra fun e => hack ⟨hflag, e⟩
          refine o.done (o.sendAck (At.live_sound (st := .established) (syn.upd fun _ ⟨k, hk, hn, e⟩ => ?_)) i) _
          exact e ▸ (hk.synTaken ..).2 (heq.trans hn.symm)
        · refine o.done (o.sendSegment (At.live_sound (st := .synRcvd) (syn.upd fun _ ⟨k, hk, _, e⟩ => ?_)) ..) _
          exact e ▸ (hk.synTaken ..).1

theorem recordsSound_tcpEstablished (h : At p i (Live p .established) t) :
    RecordsSound p (tcpEstablished i ifx src dst seg t) :=
  (h.std4 ifx src dst seg (by decide) (by decide)).finish fun _ g =>
    (g.deliver seg rfl).finish seg (.inl rfl) (.inr (.inl rfl)) (by decide)

theorem recordsSound_tcpSynRcvd (h : At p i (Live p .synRcvd) t) :
    RecordsSound p (tcpSynRcvd i ifx src dst seg t) := by
  refine (h.std3 ifx src dst seg (by decide)).finish fun u g => ?_
  have hu := g.takes_live seg
  have o := recordsSound_ordinary (p := p)
  split
  · exact o.drop hu.live_sound _
  · split
    · exact o.drop (o.sendReset hu.live_sound ..) _
    · exact recordsSound_tcpEstablished ifx src dst seg (hu.upd fun _ hk => hk.opened seg)

theorem recordsSound_tcpCloseWait (h : At p i (Live p .closeWait) t) :
    RecordsSound p (tcpCloseWait i ifx src dst seg t) :=
  (h.std4 ifx src dst seg (by decide) (by decide)).finish fun _ g =>
    recordsSound_ordinary.done (g.deliver seg rfl).ackFlush _

theorem recordsSound_tcpLastAck (h : At p i (Live p .lastAck) t) :
    RecordsSound p (tcpLastAck i ifx src dst seg t) := by
  refine (h.std3 ifx src dst seg (by decide)).finish fun u g => ?_
  split
  · exact recordsSound_ordinary.done ((g.takes_live seg).enterClosed (by decide) false) _
  · exact recordsSound_ordinary.drop (g.takes_live seg).live_sound _

theorem recordsSound_tcpFinWait1 (h : At p i (Live p .finWait1) t) :
    RecordsSound p (tcpFinWait1 i ifx src dst seg t) := by
  refine (h.std4 ifx src dst seg (by decide) (by decide)).finish fun u g => ?_
  dsimp only
  unfold finAcked
  split
  · have acked : At p i (Takes p .finWait2 seg)
        (updSock u i fun k => { k with state := .finWait2, tFw2 := armed u }) :=
      g.upd fun _ ⟨hk, hw⟩ => ⟨hk.finAcked _, hw⟩
    have d := acked.deliver seg rfl
    have post : postFin ((Machine.deliver i seg _).sock i) = .timeWait := if_pos d.record.state
    rw [post]
    exact d.finish seg (.inr (.inr rfl)) (.inl rfl) (by decide)
  · have d := g.deliver seg rfl
    have post : postFin ((Machine.deliver i seg u).sock i) = .closing := if_neg (by simp [d.record.state])
    rw [post]
    exact d.finish seg (.inr (.inl rfl)) (.inr (.inr rfl)) (by decide)

theorem recordsSound_tcpFinWait2 (h : At p i (Live p .finWait2) t) :
    RecordsSound p (tcpFinWait2 i ifx src dst seg t) :=
  (h.std4 ifx src dst seg (by decide) (by decide)).finish fun _ g =>
    (g.deliver seg rfl).finish seg (.inr (.inr rfl)) (.inl rfl) (by decide)

theorem recordsSound_tcpClosing (h : At p i (Live p .closing) t) :
    RecordsSound p (tcpClosing i ifx src dst seg t) := by
  refine (h.std4 ifx src dst seg (by decide) (by decide)).finish fun u g => ?_
  have hu := g.takes_live seg
  split
  · exact recordsSound_ordinary.done (hu.enterTimeWait (by decide) (by decide)).live_sound _
  · exact recordsSound_ordinary.drop hu.live_sound _

omit ifx src dst in
theorem recordsSound_tcpTimeWait (h : At p i (Live p .timeWait) t) : RecordsSound p (tcpTimeWait i seg t) := by
  have o := recordsSound_ordinary (p := p)
  unfold tcpTimeWait
  split
  · exact o.done (h.enterClosed (by decide) true) _
  · split
    · refine o.done (At.live_sound (st := .timeWait) ((at_ordinary.sendAck h i).upd fun _ hk => ?_)) _
      exact ⟨hk.type, hk.state, { hk.core with }⟩
    · exact o.drop h.live_sound _

end steps

theorem RecordsSound.tcpDispatch {p : Params} {t : State} (h : RecordsSound p t) (i : Nat) (ifx : Byte) (src dst : Word)
    (seg : Segment) : RecordsSound p (tcpDispatch i ifx src dst seg t) := by
  have live {st : TcpState} (e : (t.sock i).state = st) (hst : st ≠ .closed) : At p i (Live p st) t :=
    e ▸ h.live (e ▸ hst)
  unfold Machine.tcpDispatch
  split
  · exact recordsSound_ordinary.tcpClosed h ..
  · rename_i e; exact recordsSound_tcpListen ifx src dst seg (live e (by decide))
  · rename_i e; exact recordsSound_tcpSynSent ifx src dst seg (live e (by decide))
  · rename_i e; exact recordsSound_tcpSynRcvd ifx src dst seg (live e (by decide))
  · rename_i e; exact recordsSound_tcpEstablished ifx src dst seg (live e (by decide))
  · rename_i e; exact recordsSound_tcpCloseWait ifx src dst seg (live e (by decide))
  · rename_i e; exact recordsSound_tcpLastAck ifx src dst seg (live e (by decide))
  · rename_i e; exact recordsSound_tcpFinWait1 ifx src dst seg (live e (by decide))
  · rename_i e; exact recordsSound_tcpFinWait2 ifx src dst seg (live e (by decide))
  · rename_i e; exact recordsSound_tcpClosing ifx src dst seg (live e (by decide))
  · rename_i e; exact recordsSound_tcpTimeWait seg (live e (by decide))

theorem RecordsSound.tickSock {p : Params} {t : State} (h : RecordsSound p t) (i : Nat) :
    RecordsSound p (tickSock i t) := by
  unfold Machine.tickSock
  dsimp only
  split
  · rename_i hc
    have hst : (t.sock i).state = .timeWait ∨ (t.sock i).state = .finWait2 := by
      simp only [tickCloses, Bool.and_eq_true, Bool.or_eq_true, decide_eq_true_eq] at hc
      exact hc.2.imp And.left And.left
    exact (h.live (by rcases hst with e | e <;> simp [e])).enterClosed (by rcases hst with e | e <;> simp [e]) false
  · split
    · rename_i ha
      have hst : (t.sock i).state ≠ .closed := by
        intro e
        simp [tickAcks, e, TcpState.acksAtTick] at ha
      exact ((at_ordinary.sendAck (h.live hst) i).upd fun _ hk => hk.ackPending false).live_sound
    · exact h

end Sys2Proof.Proofs
end

section
/-! The record invariant over the socket operations, and over a step. -/

namespace Sys2Proof.Proofs

open Machine Claims

section sockets
variable {p : Params} {t : State}

/-- A record just opened with another type than UNUSED is sound (45_host_ops.md R290). -/
theorem sockInv_opened {ty : SockType} (hty : ty ≠ .unused) :
    sockInv p { Sock.reset with type := ty, owned := true } := by
  obtain ⟨-, -, core⟩ := sockInv_iff.mp (sockInv_reset p)
  exact sockInv_iff.mpr ⟨fun e => absurd e hty, fun _ => rfl, { core with }⟩

/-- A record with another local endpoint is sound (45_host_ops.md R291). -/
theorem sockInv_bound {k : Sock} (h : sockInv p k) (hu : k.type ≠ .unused) (port : Half) (a : Word) (x : Byte) :
    sockInv p { k with localPort := port, localAddr := addrOperand a, ifBound := x } := by
  obtain ⟨-, stream, core⟩ := sockInv_iff.mp h
  have alen : (addrOperand a).len ≤ 4 := by
    unfold addrOperand
    split
    · exact Nat.zero_le 4
    · exact Nat.le_refl 4
  exact sockInv_iff.mpr ⟨fun e => absurd e hu, stream, { core with localLen := alen }⟩

/-- A record that its application lets go of is sound (45_host_ops.md R296). -/
theorem sockInv_released {k : Sock} (h : sockInv p k) (hu : k.type ≠ .unused) :
    sockInv p { k with owned := false } := by
  obtain ⟨-, stream, core⟩ := sockInv_iff.mp h
  exact sockInv_iff.mpr ⟨fun e => absurd e hu, stream, { core with }⟩

/-- What `Sock.bound` tests: a stream record in CLOSED (45_host_ops.md R292, R293). -/
theorem live_of_bound {k : Sock} (h : sockInv p k) (hb : k.bound = true) : Live p .closed k := by
  simp only [Sock.bound, Bool.and_eq_true, decide_eq_true_eq] at hb
  obtain ⟨⟨⟨ht, -⟩, hc⟩, -⟩ := hb
  exact hc ▸ live_of_stream h ht

/-- A record that begins to listen with a legal backlog bound (45_host_ops.md R292). -/
theorem Live.listening {k : Sock} (h : Live p .closed k) {b : Half} (hmax : p.synqMax ≤ 255) (h1 : 1 ≤ b.toNat)
    (h2 : b.toNat ≤ p.synqMax) : Live p .listen { k with state := .listen, synqMax := b.setWidth 8, synq := [] } := by
  have hno : k.ooo = [] := h.core.noneHeld (h.state ▸ rfl)
  have width : (b.setWidth 8).toNat = b.toNat := by
    rw [BitVec.toNat_setWidth]
    exact Nat.mod_eq_of_lt (by omega)
  exact ⟨h.type, rfl,
    { h.core with
      listener := fun _ => ⟨width.symm ▸ h1, width.symm ▸ h2, Nat.zero_le _⟩
      backlog := fun e => absurd rfl e
      requests := fun _ he => nomatch he
      noneHeld := fun _ => hno
      gap := fun e => by simp at e
      sent := h.sent }⟩

/-- The number after the SYN's own is one ahead of it (10_state.md R32). -/
theorem sent_syn (iss : Word) : (iss + 1 - iss).toNat ≤ 1 := by bv_omega

/-- The record of an active open (45_host_ops.md R293). -/
theorem Live.connecting {k : Sock} (h : Live p .closed k) {la : IpAddr} (hla : la.len ≤ 4) (remote iss out : Word)
    (port : Half) : Live p .synSent (connectRecord p la remote iss out port k) :=
  ⟨h.type, rfl,
    { h.core with
      listener := fun e => nomatch e
      backlog := fun _ => h.core.backlog (by simp [h.state])
      localLen := hla
      remoteLen := Nat.le_refl 4
      room := by simp [connectRecord]
      noneHeld := fun _ => rfl
      held := oooInv_nil rfl
      gap := fun _ _ hx => nomatch hx
      sent := sent_syn iss }⟩

/-- The local address of an active open has length 0 or 4, as that of the record has (45_host_ops.md R293). -/
theorem connectAddr_len {k : Sock} {f : Iface} {la : IpAddr} (hk : k.localAddr.len ≤ 4)
    (e : connectAddr k f = some la) : la.len ≤ 4 := by
  unfold connectAddr at e
  split at e
  · split at e <;> cases e
    exact Nat.le_refl 4
  · cases e
    exact hk

/-- The record of an accepted connection (45_host_ops.md R294). -/
theorem live_accepted (k : Sock) {e : SynEntry} (he : e.srcAddr.len = 4 ∧ e.destAddr.len = 4) (iss rto : Word) :
    Live p .synRcvd (acceptRecord p k e iss rto) := by
  exact ⟨rfl, rfl,
    { listener := fun e => nomatch e
      backlog := fun _ => ⟨rfl, rfl⟩
      localLen := Nat.le_of_eq he.2
      remoteLen := Nat.le_of_eq he.1
      requests := fun _ he => nomatch he
      room := by simp [acceptRecord, Sock.reset]
      noneHeld := fun _ => rfl
      held := oooInv_nil rfl
      gap := fun _ _ hx => nomatch hx
      sent := sent_syn iss }⟩

/-- A record some of whose received bytes are taken: what is taken is window again (45_host_ops.md R297). -/
theorem Live.taken {k : Sock} {st : TcpState} (h : Live p st k) {n : Nat} (hn : n ≤ k.rxq.length) :
    Live p st (receivedRecord n k) := by
  have room := h.core.room
  have bound := p.rxWnd.isLt
  have wnd : (k.rcvWnd + BitVec.ofNat 16 n).toNat = k.rcvWnd.toNat + n := by
    rw [BitVec.toNat_add, BitVec.toNat_ofNat]
    omega
  obtain ⟨mode, hwin⟩ := oooInv_iff.mp h.core.held
  exact ⟨h.type, h.state,
    { h.core with
      room := by
        simp only [receivedRecord, List.length_drop, wnd]
        omega
      held := oooInv_iff.mpr ⟨mode, hwin.rising, fun x hx => by
        have := hwin.inside x hx
        simp only [receivedRecord, wnd]
        omega⟩ }⟩

/-- Our FIN is sent and the record moves on (45_host_ops.md R295, R296). -/
theorem At.sendFin {i : Nat} {st st' : TcpState} (h : At p i (Live p st) t) (hst : finMoves st st') :
    At p i (Live p st') (sendFin i st' t) := by
  have moved : At p i (fun k' => ∃ k, Live p st k ∧ k' = { k with state := st' })
      (updSock t i fun k => { k with state := st' }) := h.upd fun k hk => ⟨k, hk, rfl⟩
  unfold Machine.sendFin
  exact (at_ordinary.sendSegment moved ..).upd fun _ ⟨k, hk, e⟩ => e ▸ hk.finSent hst

variable (h : RecordsSound p t) (i : Nat)
include h

omit i in
theorem RecordsSound.sockOpen {ty : SockType} (hty : ty ≠ .unused) : RecordsSound p (sockOpen ty t) := by
  have o := recordsSound_ordinary (p := p)
  unfold Machine.sockOpen
  split
  · exact o.drop (o.setR0 h _) _
  · exact o.done (o.setR0 (h.set _ (sockInv_opened hty)) _) _

theorem RecordsSound.sockBind (port : Half) : RecordsSound p (sockBind i port t) := by
  have o := recordsSound_ordinary (p := p)
  unfold Machine.sockBind
  dsimp only
  split
  · exact o.drop h _
  · rename_i hno
    exact o.done (h.set _ (sockInv_bound (h.sock i) (fun e => hno (.inl e)) ..)) _

theorem RecordsSound.sockListen (hmax : p.synqMax ≤ 255) {b : Half} (hb : backlogOk t b = true) :
    RecordsSound p (sockListen i b t) := by
  have o := recordsSound_ordinary (p := p)
  simp only [backlogOk, h.par, Bool.and_eq_true, decide_eq_true_eq] at hb
  obtain ⟨h1, h2⟩ := hb
  unfold Machine.sockListen
  dsimp only
  split
  · exact o.drop h _
  · rename_i hno
    have live := live_of_bound (h.sock i) (by simpa using hno)
    exact o.done (h.set _ (live.listening hmax h1 h2).sockInv) _

theorem RecordsSound.sockConnect (port : Half) : RecordsSound p (sockConnect i port t) := by
  have o := recordsSound_ordinary (p := p)
  unfold Machine.sockConnect
  dsimp only
  split
  · exact o.drop h _
  · rename_i hno
    have live := live_of_bound (h.sock i) (by simpa using hno)
    split
    · exact o.drop h _
    · rename_i la hla
      rw [h.par]
      exact o.done (o.setR0 (o.sendSegment
        (h.set _ (live.connecting (connectAddr_len live.core.localLen hla) ..).sockInv) ..) 0) _

theorem RecordsSound.sockAccept : RecordsSound p (sockAccept i t) := by
  have o := recordsSound_ordinary (p := p)
  unfold Machine.sockAccept
  dsimp only
  split
  · exact o.drop h _
  · rename_i hno
    simp only [not_or, not_not] at hno
    obtain ⟨ht, -, hl⟩ := hno
    have live : Live p .listen (t.sock i) := hl ▸ live_of_stream (h.sock i) ht
    split
    · exact o.done (o.setR0 h _) _
    · rename_i e rest hq
      split
      · exact o.drop (o.setR0 h _) _
      · have hreq := live.core.requests
        obtain ⟨-, -, hlen⟩ := live.core.listener live.state
        rw [hq] at hreq hlen
        have left := live.queued (Nat.le_of_succ_le hlen) fun x hx => hreq x (List.mem_cons_of_mem _ hx)
        have joined := live_accepted (p := p) (t.sock i) (hreq e List.mem_cons_self) (t.reg 1) (rtoAnswer t)
        rw [h.par]
        exact o.done (o.setR0 (o.sendSegment
          (((o.rtoAsked h).set i left.sockInv).set _ joined.sockInv) ..) _) _

theorem RecordsSound.sockShut : RecordsSound p (sockShut i t) := by
  have o := recordsSound_ordinary (p := p)
  have fin {st st' : TcpState} (e : (t.sock i).state = st) (hst : finMoves st st') (hc : st ≠ .closed) :
      RecordsSound p (done (setR0 (updSock (sendFin i st' t) i fun k => { k with ackPending := false }) 0) .ok) := by
    have live : At p i (Live p st) t := e ▸ h.live (e ▸ hc)
    exact o.done (o.setR0 ((live.sendFin hst).upd fun _ hk => hk.ackPending false).live_sound 0) _
  unfold Machine.sockShut
  dsimp only
  split
  · exact o.drop h _
  · split
    · rename_i e; exact fin e (.inl ⟨.inr rfl, rfl⟩) (by decide)
    · rename_i e; exact fin e (.inr ⟨rfl, rfl⟩) (by decide)
    all_goals exact o.drop h _

theorem RecordsSound.letGo : RecordsSound p (letGo i t) := by
  have gone : RecordsSound p (recycle t i) := h.set i (sockInv_reset p)
  have fin {st st' : TcpState} (e : (t.sock i).state = st) (hst : finMoves st st') (hc : st ≠ .closed) :
      RecordsSound p (sendFin i st' t) :=
    have live : At p i (Live p st) t := e ▸ h.live (e ▸ hc)
    (live.sendFin hst).live_sound
  unfold Machine.letGo
  dsimp only
  split
  · exact gone
  · split
    · exact gone
    · exact gone
    · exact gone
    · rename_i e; exact fin e (.inl ⟨.inl rfl, rfl⟩) (by decide)
    · rename_i e; exact fin e (.inl ⟨.inr rfl, rfl⟩) (by decide)
    · rename_i e; exact fin e (.inr ⟨rfl, rfl⟩) (by decide)
    all_goals exact h

theorem RecordsSound.sockClose : RecordsSound p (sockClose i t) := by
  have o := recordsSound_ordinary (p := p)
  unfold Machine.sockClose
  dsimp only
  split
  · exact o.drop h _
  · rename_i hno
    have released := sockInv_released (h.sock i) fun e => hno (.inl e)
    exact o.done (o.setR0 ((h.set i released).letGo i) 0) _

theorem RecordsSound.sockRecv (most : Half) : RecordsSound p (sockRecv i most t) := by
  have o := recordsSound_ordinary (p := p)
  unfold Machine.sockRecv
  dsimp only
  split
  · exact o.drop h _
  · rename_i hno
    split
    · exact o.done h _
    · have ht : (t.sock i).type = .stream := not_not.mp fun e => hno (.inl e)
      have live := (live_of_stream (h.sock i) ht).taken (Nat.min_le_right most.toNat _)
      exact o.done (o.setOut (o.setR0 (h.set _ live.sockInv) _) _) _

end sockets

/-- Every operation a command is made of keeps the records sound, where a backlog bound fits in its byte. -/
theorem recordsSound_operations {p : Params} (hmax : p.synqMax ≤ 255) : Operations (RecordsSound p) where
  toOrdinary := recordsSound_ordinary
  receiveTcp h := recordsSound_ordinary.receiveTcp h fun hu => hu.tcpDispatch
  reassemble h ifx d _ := recordsSound_ordinary.reassemble (fun hu _ _ => hu.congr rfl rfl) h
    (fun hu => recordsSound_ordinary.receiveTcp hu fun hv => hv.tcpDispatch) ifx d
  fragTick h := recordsSound_ordinary.fragTick h fun hu =>
    recordsSound_ordinary.evict (fun hv _ _ => hv.congr rfl rfl) hu
  tcpTick h := recordsSound_ordinary.tcpTick h fun hu => hu.tickSock
  control h _ _ _ _ := h.congr rfl rfl
  sockOpen h _ hty := h.sockOpen hty
  sockBind h := h.sockBind
  sockListen h i _ hb := h.sockListen i hmax hb
  sockConnect h := h.sockConnect
  sockAccept h := h.sockAccept
  sockShut h := h.sockShut
  sockClose h := h.sockClose
  sockRecv h := h.sockRecv

/-- Legal parameters bound the backlog by what its byte can hold (log 19). -/
theorem synqMax_le_of_legal {p : Params} (h : p.legal = true) : p.synqMax ≤ 255 := by
  simp only [Params.legal, Bool.and_eq_true, decide_eq_true_eq] at h
  obtain ⟨⟨⟨⟨⟨⟨⟨⟨-, hmax⟩, -⟩, -⟩, -⟩, -⟩, -⟩, -⟩, -⟩ := h
  exact hmax

/-- Settles O59: the invariant for the parameters in force holds of every record after every operation, and after
reset. -/
theorem stepKeepsRecordInvariants : Obligations.StepKeepsRecordInvariants := by
  unfold Obligations.StepKeepsRecordInvariants
  intro s t hp hlegal hs e
  refine (recordsSound_iff.mp ((recordsSound_operations (synqMax_le_of_legal hlegal)).step
    (fun _ =>
      { lock := fun _ {_} h _ => h.congr rfl rfl
        time := fun _ {_} h => h.congr rfl rfl
        register := fun _ _ _ {_} h _ => h.congr rfl rfl
        queues := fun _ _ {_} h _ => h.congr rfl rfl })
    (fun h _ => h.congr rfl rfl) (fun h _ _ => h.congr rfl rfl) (fun h _ => h.congr rfl rfl) (fun {u} h => ?_) hp
    (recordsSound_iff.mpr ⟨rfl, hs⟩) e)).2
  exact recordsSound_iff.mpr ⟨h.par, socksInv_resetWith u.par⟩

end Sys2Proof.Proofs
end

section
/-! Buffer memory (20_memory.md R70, R71): no operation writes it, and a step changes it only where the host stores. -/

namespace Sys2Proof.Proofs

open Machine Claims

/-- What an operation reads and never writes: buffer memory, the parameters, the latch and the port (10_state.md R23,
R62). -/
def surroundings (s : State) : Memory × Params × Word × Byte × List Input := (s.mem, s.par, s.cmd, s.tid, s.port)

theorem surroundings_eq_iff {s t : State} : surroundings t = surroundings s ↔
    t.mem = s.mem ∧ t.par = s.par ∧ t.cmd = s.cmd ∧ t.tid = s.tid ∧ t.port = s.port := by
  simp only [surroundings, Prod.mk.injEq]

theorem surroundings_of_kept {s t : State} (h : Kept s t) : surroundings t = surroundings s :=
  surroundings_eq_iff.mpr ⟨h.mem, h.par, h.cmd, h.tid, h.port⟩

/-- The five commands with a write of their own leave the surroundings alone too, so no instruction is excepted. -/
theorem exec_surroundings {i : Instr} {s t : State} (e : exec i s = .next t) : surroundings t = surroundings s :=
  (closed_of_kept surroundings_of_kept s).exec
    { lock := fun _ {_} ht _ => ht
      time := fun _ {_} ht => ht
      register := fun _ _ _ {_} ht _ => ht
      queues := fun _ _ {_} ht _ => ht } rfl e

theorem exec_mem {i : Instr} {s t : State} (e : exec i s = .next t) : t.mem = s.mem :=
  (surroundings_eq_iff.mp (exec_surroundings e)).1

/-- Settles O13: the primitive updates leave the surroundings alone, and every instruction is made of them. -/
theorem bufferMemoryIsNeverWritten : Obligations.BufferMemoryIsNeverWritten := by
  unfold Obligations.BufferMemoryIsNeverWritten
  intro i s t e
  obtain ⟨hmem, context⟩ := surroundings_eq_iff.mp (exec_surroundings e)
  exact ⟨fun a => congrArg (memGet · a) hmem, hmem, context⟩

/-! The step. -/

/-- An entry that the decoder rejects leaves memory alone, where it is not stopped by a fault. -/
theorem rejected_mem {r : DecodeError} {s t : State} (e : rejected r s = .next t) : t.mem = s.mem := by
  cases r <;> cases e
  rfl

/-- A step that takes an entry from the port leaves memory as it was when the entry was taken. -/
theorem step_entry_mem {s t u : State} {en : Entry} (hf : fetch s = .entry en u) (e : step s = .next t) :
    t.mem = u.mem := by
  unfold step at e
  rw [hf] at e
  dsimp only at e
  split at e
  · exact exec_mem e
  · exact rejected_mem e

/-- A step leaves memory alone unless the host stores, and then it is what the host has stored
(70_reset_and_hazards.md R346). -/
theorem step_mem_cases {s t : State} (e : step s = .next t) :
    t.mem = s.mem ∨ ∃ a b rest, s.port = .store a b :: rest ∧ t.mem = memStore s.mem a b := by
  cases hport : s.port with
  | nil =>
    cases (step_empty hport).symm.trans e
    exact .inl rfl
  | cons x rest =>
    cases x with
    | command cmd tid wdata =>
      have hf : fetch s = .entry (.command cmd wdata) (latched cmd tid (taking s rest)) := by simp only [fetch, hport]
      have same := step_entry_mem hf e
      exact .inl same
    | internal en =>
      have hf : fetch s = .entry en (taking s rest) := by simp only [fetch, hport]
      have same := step_entry_mem hf e
      exact .inl same
    | store a b =>
      cases (step_store hport).symm.trans e
      exact .inr ⟨a, b, rest, rfl, rfl⟩
    | reset =>
      cases (step_reset hport).symm.trans e
      exact .inl rfl

/-- Settles O57: only a store of the host changes memory in a step, and it keeps the canonical form. -/
theorem stepKeepsMemoryForm : Obligations.StepKeepsMemoryForm := by
  unfold Obligations.StepKeepsMemoryForm
  intro s t hwf e
  rcases step_mem_cases e with same | ⟨a, b, -, -, stored⟩
  · exact same ▸ hwf
  · exact stored ▸ memStore_wf s.mem a b hwf

end Sys2Proof.Proofs
end

section
/-! The encoding (30_encoding.md R94 to R96, R100, R110 to R115): the fields of a command word, which codes the decoder
knows, and the scan of the TCP options. -/

namespace Sys2Proof.Proofs

open Machine Claims

/-! The fields of a command word. -/

@[simp] theorem cmdOp_commandWord (op x : Byte) (y : Half) : cmdOp (commandWord op x y) = op := by
  have high : cmdOp (commandWord op x y) = (op ++ x : Half).extractLsb' 8 8 :=
    BitVec.extractLsb'_append_eq_of_le (by decide)
  exact high.trans BitVec.extractLsb'_append_eq_left

@[simp] theorem cmdX_commandWord (op x : Byte) (y : Half) : cmdX (commandWord op x y) = x := by
  have high : cmdX (commandWord op x y) = (op ++ x : Half).extractLsb' 0 8 :=
    BitVec.extractLsb'_append_eq_of_le (by decide)
  exact high.trans BitVec.extractLsb'_append_eq_right

@[simp] theorem cmdY_commandWord (op x : Byte) (y : Half) : cmdY (commandWord op x y) = y :=
  BitVec.extractLsb'_append_eq_right

/-- A protocol widened into the field `y` of `IPTX` is read back from `y[7:0]` (41_ip_admission.md R170). -/
theorem lowByte_setWidth (p : Byte) : (p.setWidth 16).extractLsb' 0 8 = p :=
  (BitVec.extractLsb'_setWidth_of_le (by decide)).trans BitVec.extractLsb'_eq_self

/-! Which codes the decoder knows (30_encoding.md R110, R111). -/

/-- A code is listed if its value is that of a listed code. -/
theorem mem_commandCodes_of_toNat {op : Byte} {n : Nat} (e : op.toNat = n) (hn : BitVec.ofNat 8 n ∈ commandCodes) :
    op ∈ commandCodes := by
  rwa [← e, BitVec.ofNat_toNat, BitVec.setWidth_eq] at hn

/-- Every arm of the decoder that answers an instruction is that of a listed code. -/
theorem mem_commandCodes_of_decodeCommand {cmd wdata : Word} {i : Instr} (e : decodeCommand cmd wdata = .ok i) :
    cmdOp cmd ∈ commandCodes := by
  unfold decodeCommand at e
  dsimp only at e
  split at e
  case h_28 => cases e
  all_goals exact mem_commandCodes_of_toNat ‹_› (by decide)

/-- The decoder has an arm for every listed code. -/
theorem exists_decodeCommand {cmd : Word} (wdata : Word) (h : cmdOp cmd ∈ commandCodes) :
    ∃ i, decodeCommand cmd wdata = .ok i := by
  generalize hop : cmdOp cmd = op at h
  unfold decodeCommand commandCodes at *
  rw [hop]
  fin_cases h <;> exact ⟨_, rfl⟩

theorem decodeCommand_of_not_mem {cmd : Word} (wdata : Word) (h : cmdOp cmd ∉ commandCodes) :
    decodeCommand cmd wdata = .error (.badCommand (cmdOp cmd)) := by
  cases e : decodeCommand cmd wdata with
  | ok i => exact absurd (mem_commandCodes_of_decodeCommand e) h
  | error r => rw [decodeCommand_error e]

/-- Settles O2: an arm for every listed code and for no other. -/
theorem commandCodesAreExactly27 : Obligations.CommandCodesAreExactly27 := by
  unfold Obligations.CommandCodesAreExactly27
  exact fun _ wdata => ⟨⟨fun ⟨_, e⟩ => mem_commandCodes_of_decodeCommand e, exists_decodeCommand wdata⟩,
    decodeCommand_of_not_mem wdata⟩

/-- Settles O6: the decoder rejects the word, and the step of a rejected word is an illegal command. -/
theorem illegalCommandOnlyCounts : Obligations.IllegalCommandOnlyCounts := by
  unfold Obligations.IllegalCommandOnlyCounts
  intro s cmd wdata tid rest hp h
  exact step_illegal hp (decodeCommand_of_not_mem wdata h)

/-- Settles O4: each word is evaluated. -/
theorem specWordsDecode : Obligations.SpecWordsDecode := by
  unfold Obligations.SpecWordsDecode
  decide

/-! Decoding what the encoder writes. -/

/-- `IPTX` reads the low byte of `y` (41_ip_admission.md R170). -/
theorem decodeCommand_iptx (x : Byte) (y : Half) (wdata : Word) :
    decodeCommand (commandWord 0x12 x y) wdata = .ok (.iptx x (y.extractLsb' 0 8)) := by
  unfold decodeCommand
  rw [cmdOp_commandWord, cmdX_commandWord, cmdY_commandWord]
  rfl

/-- `SETA` reads `x` and `WDATA` (45_host_ops.md R287). -/
theorem decodeCommand_seta (x : Byte) (y : Half) (wdata : Word) :
    decodeCommand (commandWord 0x56 x y) wdata = .ok (.seta x wdata) := by
  unfold decodeCommand
  rw [cmdOp_commandWord, cmdX_commandWord]
  rfl

/-- `SOPEN` reads `y` (45_host_ops.md R290). -/
theorem decodeCommand_sopen (x : Byte) (y : Half) (wdata : Word) :
    decodeCommand (commandWord 0x60 x y) wdata = .ok (.sopen y) := by
  unfold decodeCommand
  rw [cmdOp_commandWord, cmdY_commandWord]
  rfl

/-- A command word and `WDATA` carry every operand of a command. -/
theorem decode_encode_command {i : Instr} (hc : i.isCommand = true) : decode (encode i) = .ok i := by
  cases i with
  | iptx x p =>
    dsimp only [encode, commandEntry, decode]
    rw [decodeCommand_iptx, lowByte_setWidth]
  | pshdr | ipdemux | reasm | ipfrag | tcprx | tcpsClosed | tcpsListen | tcpsSynSent | tcpsSynRcvd | tcpsEstablished
  | tcpsCloseWait | tcpsLastAck | tcpsFinWait1 | tcpsFinWait2 | tcpsClosing | tcpsTimeWait => cases hc
  | _ =>
    dsimp only [encode, commandEntry, decode]
    unfold decodeCommand
    rw [cmdOp_commandWord, cmdX_commandWord, cmdY_commandWord]
    rfl

/-- Settles O1: a command by its word; of the internal operations, only FRAGSEL's choice rests on well-formedness. -/
theorem decodeEncodeAgree : Obligations.DecodeEncodeAgree := by
  unfold Obligations.DecodeEncodeAgree
  intro i hwf
  cases i with
  | ipdemux x d =>
    have whole : isFragment (fragField d) = false := by simpa using (Bool.and_eq_true_iff.mp hwf).2
    simp only [encode, decode, selectFrag, whole]
    rfl
  | reasm x d =>
    have part : isFragment (fragField d) = true := (Bool.and_eq_true_iff.mp hwf).2
    simp only [encode, decode, selectFrag, part]
    rfl
  | pshdr | ipfrag | tcprx | tcpsClosed | tcpsListen | tcpsSynSent | tcpsSynRcvd | tcpsEstablished
  | tcpsCloseWait | tcpsLastAck | tcpsFinWait1 | tcpsFinWait2 | tcpsClosing | tcpsTimeWait => rfl
  | _ => exact decode_encode_command rfl

/-- Settles O3: the decoder reads a command word through `cmdOp`, `cmdX` and `cmdY` alone, and the arm of each code
passes on the fields that its operation names. -/
theorem unnamedFieldsAreIgnored : Obligations.UnnamedFieldsAreIgnored := by
  unfold Obligations.UnnamedFieldsAreIgnored
  refine ⟨?neither, ?xOnly, ?yOnly, ?seta, ?iptx, ?wdata⟩
  case neither =>
    intro op hop x x' y y' w w'
    unfold decodeCommand
    rw [cmdOp_commandWord, cmdOp_commandWord, cmdX_commandWord, cmdX_commandWord, cmdY_commandWord, cmdY_commandWord]
    fin_cases hop <;> rfl
  case xOnly =>
    intro op hop x y y' w w'
    unfold decodeCommand
    rw [cmdOp_commandWord, cmdOp_commandWord, cmdX_commandWord, cmdX_commandWord]
    fin_cases hop <;> rfl
  case yOnly => exact fun x x' y w w' => (decodeCommand_sopen x y w).trans (decodeCommand_sopen x' y w').symm
  case seta => exact fun x y y' w => (decodeCommand_seta x y w).trans (decodeCommand_seta x y' w).symm
  case iptx =>
    intro x p h h' w w'
    rw [decodeCommand_iptx, decodeCommand_iptx, BitVec.extractLsb'_append_eq_right, BitVec.extractLsb'_append_eq_right]
  case wdata =>
    intro cmd w w' hop
    have other : (cmdOp cmd).toNat ≠ 0x56 := fun e => hop (BitVec.eq_of_toNat_eq e)
    unfold decodeCommand
    dsimp only
    split
    case h_17 e => exact absurd e other
    all_goals rfl

/-! Reading a segment (44_tcp_fsm.md R221, 30_encoding.md R94 to R96). -/

/-- The six flags are the low bits of byte 13 (30_encoding.md R95). -/
theorem lowSix_setWidth (v : Byte) : (v.extractLsb' 0 6).setWidth 8 = v &&& 0x3F := by
  revert v
  decide

/-- Fuel past the length of the option area changes nothing, since each turn of the scan takes at least one byte. -/
theorem scanMss_of_length_le {fuel fuel' : Nat} {o : Bytes} (h : o.length ≤ fuel) (h' : o.length ≤ fuel') :
    scanMss fuel o = scanMss fuel' o := by
  induction fuel generalizing fuel' o with
  | zero =>
    cases List.eq_nil_of_length_eq_zero (Nat.le_zero.mp h)
    cases fuel' <;> rfl
  | succ fuel ih =>
    cases o with
    | nil => cases fuel' <;> rfl
    | cons k rest =>
      cases fuel' with
      | zero => cases h'
      | succ fuel' =>
        have hrest := Nat.le_of_succ_le_succ h
        have hrest' := Nat.le_of_succ_le_succ h'
        unfold scanMss
        rw [ih hrest hrest']
        congr 2
        cases rest with
        | nil => rfl
        | cons n body =>
          dsimp only
          split
          · rfl
          · rename_i hn
            have shorter : ((k :: n :: body).drop n.toNat).length ≤ (n :: body).length := by
              simp only [List.length_drop, List.length_cons]
              omega
            rw [ih (shorter.trans hrest) (shorter.trans hrest')]

/-- The scan at an option that has a length byte: refused, read as the MSS, or skipped (30_encoding.md R96). -/
theorem scanMss_option {k n : Byte} {o : Bytes} (hk0 : k ≠ 0) (hk1 : k ≠ 1) :
    scanMss (k :: n :: o).length (k :: n :: o) =
      if n.toNat < 2 ∨ o.length + 2 < n.toNat then none
      else if k = 2 ∧ n = 4 then some (be16 o 0)
      else scanMss (o.drop (n.toNat - 2)).length (o.drop (n.toNat - 2)) := by
  have turn : scanMss (k :: n :: o).length (k :: n :: o) =
      if n.toNat < 2 ∨ o.length + 2 < n.toNat then none
      else if k = 2 ∧ n = 4 then some (be16 o 0)
      else scanMss (n :: o).length ((k :: n :: o).drop n.toNat) :=
    (if_neg hk0).trans (if_neg hk1)
  rw [turn]
  split
  · rfl
  · rename_i hn
    have skip : (k :: n :: o).drop n.toNat = o.drop (n.toNat - 2) := by
      obtain ⟨m, hm⟩ := Nat.exists_eq_add_of_le (Nat.le_of_not_lt fun h => hn (.inl h))
      rw [hm, Nat.add_sub_cancel_left, Nat.add_comm]
      rfl
    have enough : (o.drop (n.toNat - 2)).length ≤ (n :: o).length := by
      simp only [List.length_drop, List.length_cons]
      omega
    rw [skip, scanMss_of_length_le enough le_rfl]

/-- Settles O43: the fields are read off the definition, the scan turn by turn. -/
theorem parseReadsSegment : Obligations.ParseReadsSegment := by
  unfold Obligations.ParseReadsSegment
  refine ⟨fun b _ => ⟨rfl, rfl, rfl, rfl, lowSix_setWidth _, rfl, rfl, fun o ho => ho ▸ rfl⟩, ?_⟩
  dsimp only
  refine ⟨rfl, fun _ => rfl, fun _ => rfl, ?single, ?mss, fun k n o hk0 hk1 => ⟨?bad, ?other⟩⟩
  case single =>
    intro k hk1
    by_cases hk0 : k = 0
    · exact if_pos hk0
    · exact (if_neg hk0).trans (if_neg hk1)
  case mss =>
    intro a b o
    have fits : ¬ ((4 : Byte).toNat < 2 ∨ (a :: b :: o).length + 2 < (4 : Byte).toNat) := by
      simp
    rw [scanMss_option (by decide) (by decide), if_neg fits, if_pos ⟨rfl, rfl⟩]
    rfl
  case bad => exact fun h => (scanMss_option hk0 hk1).trans (if_pos h)
  case other =>
    intro hlo hhi hmss
    rw [scanMss_option hk0 hk1, if_neg (by omega), if_neg hmss]

end Sys2Proof.Proofs
end

section
/-! The cause counters (30_encoding.md R120, 60_exceptions.md R312): every count an operation makes is of a cause that
ends by `drop`, so the counter of an informational end stands still. The walk over the operations is made again here: a
property that `Ordinary` carries through survives a count of every cause, and this one turns on which cause it is. -/

namespace Sys2Proof.Proofs

open Machine Claims

/-- `CNT[b]` (10_state.md R56). -/
def counter (b : Byte) (s : State) : Word := s.cnt[b.toNat]'b.isLt

/-- No cause that is counted has the code `b` (30_encoding.md R120). -/
def Informational (b : Byte) : Prop := ∀ c : Cause, c.counted = true → c.code ≠ b

theorem counter_congr {b : Byte} {s t : State} (h : t.cnt = s.cnt) : counter b t = counter b s := by
  unfold counter
  rw [h]

/-! The primitive updates. -/

section primitives
variable (b : Byte) (s : State)

@[simp] theorem counter_setR0 (v : Word) : counter b (setR0 s v) = counter b s := rfl
@[simp] theorem counter_setOut (o : Output) : counter b (setOut s o) = counter b s := rfl
@[simp] theorem counter_setLock (l : Lock) : counter b (setLock s l) = counter b s := rfl
@[simp] theorem counter_setReg (i : Fin 8) (v : Word) : counter b (setReg s i v) = counter b s := rfl
@[simp] theorem counter_advanceNow : counter b (advanceNow s) = counter b s := rfl
@[simp] theorem counter_drained (q : QueueSet) : counter b (drained q s) = counter b s := rfl
@[simp] theorem counter_done (c : Cause) : counter b (done s c) = counter b s := rfl
@[simp] theorem counter_raiseIcmp (i y c : Byte) (p : Word) (d : Bytes) :
    counter b (raiseIcmp s i y c p d) = counter b s := rfl
@[simp] theorem counter_signal (i : Nat) (e : EventKind) : counter b (signal s i e) = counter b s := rfl
@[simp] theorem counter_pushUp (e : UpEntry) : counter b (pushUp s e) = counter b s := rfl
@[simp] theorem counter_setIface (i : Nat) (f : Iface) : counter b (setIface s i f) = counter b s := rfl
@[simp] theorem counter_setSlot (i j : Nat) (f : Slot) : counter b (setSlot s i j f) = counter b s := rfl
@[simp] theorem counter_releaseSlot (i j : Nat) : counter b (releaseSlot s i j) = counter b s := rfl
@[simp] theorem counter_advanceId (i : Nat) : counter b (advanceId s i) = counter b s := rfl
@[simp] theorem counter_setSock (i : Nat) (k : Sock) : counter b (setSock s i k) = counter b s := rfl
@[simp] theorem counter_updSock (i : Nat) (g : Sock → Sock) : counter b (updSock s i g) = counter b s := rfl
@[simp] theorem counter_recycle (i : Nat) : counter b (recycle s i) = counter b s := rfl
@[simp] theorem counter_emitState (e : TxEntry) : counter b (emitState s e) = counter b s :=
  counter_congr (emitState_cnt s e)
@[simp] theorem counter_rtoAsked : counter b (rtoAsked s) = counter b s := counter_congr (rtoAsked_cnt s)
@[simp] theorem counter_deferAsked : counter b (deferAsked s) = counter b s := counter_congr (deferAsked_cnt s)

@[simp] theorem counter_enterClosed (i : Nat) (r : Bool) : counter b (enterClosed i r s) = counter b s := by
  unfold enterClosed
  split <;> simp

@[simp] theorem counter_enterTimeWait (i : Nat) : counter b (enterTimeWait i s) = counter b s := rfl

@[simp] theorem counter_handUp (k : UpKind) (ifx : Byte) (d : Bytes) : counter b (handUp k ifx d s) = counter b s := rfl

@[simp] theorem counter_deliver (i : Nat) (seg : Segment) : counter b (deliver i seg s) = counter b s := by
  unfold deliver
  dsimp only
  split_ifs <;> simp

@[simp] theorem counter_finAcked (i : Nat) (seg : Segment) : counter b (finAcked i seg s) = counter b s := by
  unfold finAcked
  split <;> simp

end primitives

/-! The operations. -/

section operations
variable {b : Byte} (h : Informational b) (s : State)
include h

/-- Counting a cause that ends by `drop` leaves the counter of an informational end alone. -/
theorem counter_count {c : Cause} (hc : c.counted = true) : counter b (count s c) = counter b s :=
  Vector.getElem_set_ne c.code.isLt b.isLt fun e => h c hc (BitVec.eq_of_toNat_eq e)

theorem counter_drop {c : Cause} (hc : c.counted = true) : counter b (drop s c) = counter b s :=
  counter_count h _ hc

theorem counter_fragmentLoop (g : Datagram) (m fuel off : Nat) (pay : Bytes) :
    counter b (fragmentLoop g m fuel off pay s) = counter b s := by
  induction fuel generalizing off pay s with
  | zero => rfl
  | succ fuel ih =>
    cases pay with
    | nil => rfl
    | cons b rest =>
      unfold fragmentLoop
      dsimp only
      split
      · simp [ih]
      · simp (disch := decide) [counter_drop h]

theorem counter_sendFragments (g : Datagram) (pay : Bytes) : counter b (sendFragments g pay s) = counter b s := by
  unfold sendFragments
  dsimp only
  split <;> simp (disch := decide) [counter_drop h, counter_fragmentLoop h]

theorem counter_sendIp (ifx : Byte) (src dst : Word) (proto ttl tos : Byte) (pay : Bytes) :
    counter b (sendIp ifx src dst proto ttl tos pay s) = counter b s := by
  unfold sendIp
  dsimp only
  split_ifs <;> simp (disch := decide) [counter_drop h, counter_sendFragments h]

theorem counter_sendSegment (i : Nat) (f : BitVec 6) (q : Word) : counter b (sendSegment i f q s) = counter b s :=
  counter_sendIp h ..

theorem counter_sendAck (i : Nat) : counter b (sendAck i s) = counter b s := counter_sendIp h ..

theorem counter_sendReset (ifx : Byte) (src dst : Word) (seg : Segment) :
    counter b (sendReset ifx src dst seg s) = counter b s :=
  counter_sendIp h ..

theorem counter_lookupEnd (o : Option Nat) : counter b (lookupEnd s o) = counter b s := by
  unfold lookupEnd
  split <;> simp (disch := decide) [counter_drop h]

/-! The TCP state machine. -/

omit h in
theorem counter_andThen {s : State} {f : Flow} {k : State → Flow} (hf : counter b f.state = counter b s)
    (hk : ∀ u, counter b (k u).state = counter b u) : counter b (f.andThen k).state = counter b s :=
  andThen_state (P := fun u => counter b u = counter b s) hf fun u hu => (hk u).trans hu

section tcp
variable (i : Nat) (ifx : Byte) (src dst : Word) (seg : Segment)

theorem counter_seqCheck : counter b (seqCheck i seg s).state = counter b s := by
  unfold seqCheck
  split_ifs <;> simp (disch := decide) [Flow.state, counter_drop h, counter_sendAck h]

omit h in
theorem counter_rstCheck : counter b (rstCheck i seg s).state = counter b s := by
  unfold rstCheck
  split <;> simp [Flow.state]

theorem counter_synCheck : counter b (synCheck i ifx src dst seg s).state = counter b s := by
  unfold synCheck
  dsimp only
  split_ifs <;> simp (disch := decide) [Flow.state, counter_drop h, counter_sendReset h]

theorem counter_ackProc : counter b (ackProc i seg s).state = counter b s := by
  unfold ackProc
  split_ifs <;> simp (disch := decide) [Flow.state, counter_drop h, counter_sendAck h]

theorem counter_std3 : counter b (std3 i ifx src dst seg s).state = counter b s :=
  counter_andThen (counter_andThen (counter_seqCheck h s i seg) fun u => counter_rstCheck u i seg)
    fun u => counter_synCheck h u i ifx src dst seg

theorem counter_std4 : counter b (std4 i ifx src dst seg s).state = counter b s :=
  counter_andThen (counter_std3 h s i ifx src dst seg) fun u => counter_ackProc h u i seg

theorem counter_finHandle (post : TcpState) : counter b (finHandle i seg post s) = counter b s := by
  unfold finHandle
  dsimp only
  split_ifs <;> simp [counter_sendAck h]

theorem counter_ackFlush : counter b (ackFlush i s) = counter b s := by
  unfold ackFlush
  split_ifs <;> simp [counter_sendAck h]

theorem counter_tcpClosed : counter b (tcpClosed ifx src dst seg s) = counter b s := by
  unfold tcpClosed
  split <;> simp (disch := decide) [counter_drop h, counter_sendReset h]

theorem counter_tcpListen : counter b (tcpListen i ifx src dst seg s) = counter b s := by
  unfold tcpListen
  dsimp only
  split_ifs <;> simp (disch := decide) [counter_drop h, counter_count h, counter_sendReset h]

theorem counter_tcpSynSent : counter b (tcpSynSent i ifx src dst seg s) = counter b s := by
  unfold tcpSynSent
  dsimp only
  split_ifs <;>
    simp (disch := decide) [counter_drop h, counter_sendReset h, counter_sendAck h, counter_sendSegment h]

theorem counter_tcpEstablished : counter b (tcpEstablished i ifx src dst seg s) = counter b s :=
  counter_andThen (counter_std4 h s i ifx src dst seg) fun u => by
    simp [Flow.state, counter_ackFlush h, counter_finHandle h]

theorem counter_tcpSynRcvd : counter b (tcpSynRcvd i ifx src dst seg s) = counter b s :=
  counter_andThen (counter_std3 h s i ifx src dst seg) fun u => by
    split_ifs <;> simp (disch := decide) [Flow.state, counter_drop h, counter_sendReset h, counter_tcpEstablished h]

theorem counter_tcpCloseWait : counter b (tcpCloseWait i ifx src dst seg s) = counter b s :=
  counter_andThen (counter_std4 h s i ifx src dst seg) fun u => by simp [Flow.state, counter_ackFlush h]

theorem counter_tcpLastAck : counter b (tcpLastAck i ifx src dst seg s) = counter b s :=
  counter_andThen (counter_std3 h s i ifx src dst seg) fun u => by
    split <;> simp (disch := decide) [Flow.state, counter_drop h]

theorem counter_tcpFinWait1 : counter b (tcpFinWait1 i ifx src dst seg s) = counter b s :=
  counter_andThen (counter_std4 h s i ifx src dst seg) fun u => by
    simp [Flow.state, counter_ackFlush h, counter_finHandle h]

theorem counter_tcpFinWait2 : counter b (tcpFinWait2 i ifx src dst seg s) = counter b s :=
  counter_andThen (counter_std4 h s i ifx src dst seg) fun u => by
    simp [Flow.state, counter_ackFlush h, counter_finHandle h]

theorem counter_tcpClosing : counter b (tcpClosing i ifx src dst seg s) = counter b s :=
  counter_andThen (counter_std4 h s i ifx src dst seg) fun u => by
    split <;> simp (disch := decide) [Flow.state, counter_drop h]

theorem counter_tcpTimeWait : counter b (tcpTimeWait i seg s) = counter b s := by
  unfold tcpTimeWait
  dsimp only
  split_ifs <;> simp (disch := decide) [counter_drop h, counter_sendAck h]

theorem counter_tcpDispatch : counter b (tcpDispatch i ifx src dst seg s) = counter b s := by
  unfold tcpDispatch
  split
  · exact counter_tcpClosed h ..
  · exact counter_tcpListen h ..
  · exact counter_tcpSynSent h ..
  · exact counter_tcpSynRcvd h ..
  · exact counter_tcpEstablished h ..
  · exact counter_tcpCloseWait h ..
  · exact counter_tcpLastAck h ..
  · exact counter_tcpFinWait1 h ..
  · exact counter_tcpFinWait2 h ..
  · exact counter_tcpClosing h ..
  · exact counter_tcpTimeWait h ..

end tcp

theorem counter_receiveTcp (ifx : Byte) (src dst : Word) (seg : Bytes) :
    counter b (receiveTcp ifx src dst seg s) = counter b s := by
  unfold receiveTcp
  dsimp only
  split_ifs
  · simp (disch := decide) [counter_drop h]
  · simp (disch := decide) [counter_drop h]
  · simp (disch := decide) [counter_drop h]
  · split <;> simp [counter_lookupEnd h, counter_tcpDispatch h]

theorem counter_tickSock (i : Nat) : counter b (tickSock i s) = counter b s := by
  unfold tickSock
  dsimp only
  split_ifs <;> simp [counter_sendAck h]

theorem counter_tickSocks (n i closed : Nat) : counter b (tickSocks n i closed s).1 = counter b s := by
  induction n generalizing i closed s with
  | zero => rfl
  | succ n ih => exact (ih ..).trans (counter_tickSock h ..)

theorem counter_tcpTick : counter b (tcpTick s) = counter b s := counter_tickSocks h ..

/-! Receiving. -/

theorem counter_demux (ifx : Byte) (d : Bytes) : counter b (demux ifx d s) = counter b s := by
  have tcp : counter b (demuxTcp ifx d s) = counter b s := by
    unfold demuxTcp
    dsimp only
    split <;> simp [counter_receiveTcp h]
  unfold demux
  split_ifs <;> simp (disch := decide) [counter_drop h, tcp]

theorem counter_reassemble (ifx : Byte) (d : Bytes) : counter b (reassemble ifx d s) = counter b s := by
  unfold reassemble
  split
  · simp (disch := decide) [counter_drop h]
  · split
    · simp (disch := decide) [counter_drop h]
    · dsimp only
      split_ifs <;> simp (disch := decide) [counter_drop h, counter_demux h]

theorem counter_admitWhole (ifx : Byte) (d : Bytes) : counter b (admitWhole ifx d s) = counter b s := by
  unfold admitWhole
  split_ifs <;> simp (disch := decide) [counter_drop h, counter_reassemble h, counter_demux h]

theorem counter_admitTrimmed (ifx : Byte) (d : Bytes) : counter b (admitTrimmed ifx d s) = counter b s := by
  unfold admitTrimmed
  dsimp only
  split
  · simp (disch := decide) [counter_drop h]
  · split <;> simp (disch := decide) [counter_drop h, counter_admitWhole h]

theorem counter_admitPacket (ifx : Byte) (p : Bytes) : counter b (admitPacket ifx p s) = counter b s := by
  unfold admitPacket
  split_ifs <;> simp (disch := decide) [counter_drop h, counter_admitTrimmed h]

/-! The sweep over the reassembly slots, and the tick. -/

theorem counter_evict (i j : Nat) : counter b (evict i j s) = counter b s := by
  unfold evict
  dsimp only
  split <;> simp (disch := decide) [counter_count h]

theorem counter_sweepSlots (i n j : Nat) : counter b (sweepSlots i n j s) = counter b s := by
  induction n generalizing j s with
  | zero => rfl
  | succ n ih =>
    unfold sweepSlots
    rw [ih]
    split <;> simp [counter_evict h]

theorem counter_fragTick (i : Nat) : counter b (fragTick i s) = counter b s := counter_sweepSlots h ..

theorem counter_periodicTick : counter b (periodicTick s) = counter b s := by
  have sweep (n : Nat) : ∀ i u, counter b (fragTicks n i u) = counter b u := by
    induction n with
    | zero => exact fun _ _ => rfl
    | succ n ih => exact fun i u => (ih ..).trans (counter_fragTick h ..)
  simp [periodicTick, counter_tcpTick h, sweep]

/-! The socket operations. -/

section sockets
variable (i : Nat)

omit i in
theorem counter_sockOpen (k : SockType) : counter b (sockOpen k s) = counter b s := by
  unfold sockOpen
  split <;> simp (disch := decide) [counter_drop h]

theorem counter_sockBind (p : Half) : counter b (sockBind i p s) = counter b s := by
  unfold sockBind
  dsimp only
  split <;> simp (disch := decide) [counter_drop h]

theorem counter_sockListen (n : Half) : counter b (sockListen i n s) = counter b s := by
  unfold sockListen
  dsimp only
  split <;> simp (disch := decide) [counter_drop h]

theorem counter_sockConnect (p : Half) : counter b (sockConnect i p s) = counter b s := by
  unfold sockConnect
  dsimp only
  split
  · simp (disch := decide) [counter_drop h]
  · split <;> simp (disch := decide) [counter_drop h, counter_sendSegment h]

theorem counter_sockAccept : counter b (sockAccept i s) = counter b s := by
  unfold sockAccept
  dsimp only
  split
  · simp (disch := decide) [counter_drop h]
  · split
    · simp
    · split <;> simp (disch := decide) [counter_drop h, counter_sendSegment h]

theorem counter_sendFin (st : TcpState) : counter b (sendFin i st s) = counter b s := by
  simp [sendFin, counter_sendSegment h]

theorem counter_sockShut : counter b (sockShut i s) = counter b s := by
  unfold sockShut
  dsimp only
  split
  · simp (disch := decide) [counter_drop h]
  · split <;> simp (disch := decide) [counter_drop h, counter_sendFin h]

theorem counter_letGo : counter b (letGo i s) = counter b s := by
  unfold letGo
  dsimp only
  split
  · simp
  · split <;> simp [counter_sendFin h]

theorem counter_sockClose : counter b (sockClose i s) = counter b s := by
  unfold sockClose
  dsimp only
  split <;> simp (disch := decide) [counter_drop h, counter_letGo h]

theorem counter_sockRecv (n : Half) : counter b (sockRecv i n s) = counter b s := by
  unfold sockRecv
  dsimp only
  split_ifs <;> simp (disch := decide) [counter_drop h]

end sockets

/-! The instructions. -/

/-- A command leaves the counter alone if its body does: a refusal counts 0x53 or 0x7E (45_host_ops.md R282). -/
theorem counter_runCommand {l : Bool} {rs : List (Fin 8)} {g : Bool} {body : State → State}
    (hb : ∀ u, counter b (body u) = counter b u) : counter b (runCommand s l rs g body) = counter b s := by
  rcases runCommand_cases s l rs g body with ⟨-, -, e⟩ | e | ⟨-, -, -, e⟩
  · exact e ▸ counter_drop h _ rfl
  · exact e ▸ counter_drop h _ rfl
  · exact e ▸ hb _

theorem counter_exec {i : Instr} {s t : State} (e : exec i s = .next t) : counter b t = counter b s := by
  cases i with
  | nop | csum | csumx | csumul | skrd => cases e; exact counter_runCommand h _ fun _ => rfl
  | lock | unlock | crrd | crwr | seta | geta | drain =>
    cases e
    refine counter_runCommand h _ fun _ => ?_
    split <;> simp (disch := decide) [counter_drop h]
  | iprx => cases e; exact counter_runCommand h _ fun _ => counter_admitPacket h ..
  | iptx => cases e; exact counter_runCommand h _ fun _ => counter_sendIp h ..
  | fragtick => cases e; exact counter_runCommand h _ fun _ => counter_fragTick h ..
  | lookupt | lookupu => cases e; exact counter_runCommand h _ fun _ => counter_lookupEnd h ..
  | tcptick => cases e; exact counter_runCommand h _ fun _ => counter_tcpTick h _
  | tick => cases e; exact counter_runCommand h _ fun _ => counter_periodicTick h _
  | sopen => cases e; exact counter_runCommand h _ fun _ => counter_sockOpen h ..
  | sbind => cases e; exact counter_runCommand h _ fun _ => counter_sockBind h ..
  | slisten => cases e; exact counter_runCommand h _ fun _ => counter_sockListen h ..
  | sconnect => cases e; exact counter_runCommand h _ fun _ => counter_sockConnect h ..
  | saccept => cases e; exact counter_runCommand h _ fun _ => counter_sockAccept h ..
  | sshut => cases e; exact counter_runCommand h _ fun _ => counter_sockShut h ..
  | sclose => cases e; exact counter_runCommand h _ fun _ => counter_sockClose h ..
  | srecv => cases e; exact counter_runCommand h _ fun _ => counter_sockRecv h ..
  | pshdr => cases e; rfl
  | ipdemux => exact guarded_next e ▸ counter_demux h ..
  | reasm => exact guarded_next e ▸ counter_reassemble h ..
  | ipfrag => exact guarded_next e ▸ counter_sendFragments h ..
  | tcprx => exact guarded_next e ▸ counter_receiveTcp h ..
  | tcpsClosed => exact stateOp_next e ▸ counter_tcpClosed h ..
  | tcpsListen => exact stateOp_next e ▸ counter_tcpListen h ..
  | tcpsSynSent => exact stateOp_next e ▸ counter_tcpSynSent h ..
  | tcpsSynRcvd => exact stateOp_next e ▸ counter_tcpSynRcvd h ..
  | tcpsEstablished => exact stateOp_next e ▸ counter_tcpEstablished h ..
  | tcpsCloseWait => exact stateOp_next e ▸ counter_tcpCloseWait h ..
  | tcpsLastAck => exact stateOp_next e ▸ counter_tcpLastAck h ..
  | tcpsFinWait1 => exact stateOp_next e ▸ counter_tcpFinWait1 h ..
  | tcpsFinWait2 => exact stateOp_next e ▸ counter_tcpFinWait2 h ..
  | tcpsClosing => exact stateOp_next e ▸ counter_tcpClosing h ..
  | tcpsTimeWait => exact stateOp_next e ▸ counter_tcpTimeWait h ..

end operations

/-- Settles O54: where no counted cause has the code `b`, no instruction moves `CNT[b]`. -/
theorem onlyDropsAreCounted : Obligations.OnlyDropsAreCounted := by
  unfold Obligations.OnlyDropsAreCounted
  intro i s t b e moved
  by_contra informational
  have h : Informational b := fun c hc hb => informational ⟨c, hc, hb⟩
  exact moved (counter_exec h e)

end Sys2Proof.Proofs
end

section
/-! The checksum engine (40_checksum.md R130 to R142). All of it rests on one fact: `fold` chooses a representative modulo
65535 that is 0 only for 0, and over these classes a shift by one byte position, which is what `swap16` undoes, is a
multiplication by 256. -/

namespace Sys2Proof.Proofs

open Machine Claims

/-! Equality of one's-complement sums (00_scope.md R10). -/

/-- `m` and `n` fold to the same 16-bit sum (`fold_eq_fold_iff`): they agree modulo 65535, and only 0 stands for 0. -/
structure SameSum (m n : Nat) : Prop where
  mod : m ≡ n [MOD 65535]
  zero : m = 0 ↔ n = 0

@[refl] theorem SameSum.refl (n : Nat) : SameSum n n := ⟨.refl _, .rfl⟩

@[symm] theorem SameSum.symm {m n : Nat} (h : SameSum m n) : SameSum n m := ⟨h.mod.symm, h.zero.symm⟩

@[trans] theorem SameSum.trans {l m n : Nat} (h : SameSum l m) (g : SameSum m n) : SameSum l n :=
  ⟨h.mod.trans g.mod, h.zero.trans g.zero⟩

theorem SameSum.add {l m n k : Nat} (h : SameSum l m) (g : SameSum n k) : SameSum (l + n) (m + k) := by
  refine ⟨h.mod.add g.mod, ?_⟩
  rw [Nat.add_eq_zero_iff, Nat.add_eq_zero_iff, h.zero, g.zero]

theorem SameSum.mul_left {m n : Nat} (k : Nat) (h : SameSum m n) : SameSum (k * m) (k * n) := by
  refine ⟨h.mod.mul_left k, ?_⟩
  rw [Nat.mul_eq_zero, Nat.mul_eq_zero, h.zero]

/-- Two byte positions are one lane, so two shifts by a byte change nothing. -/
theorem sameSum_shift_twice (n : Nat) : SameSum (256 * (256 * n)) n :=
  ⟨by unfold Nat.ModEq; omega, by omega⟩

/-- Only the parity of a byte position counts. -/
theorem sameSum_shift_of_even {k : Nat} (h : k % 2 = 0) (n : Nat) : SameSum (256 ^ k * n) n := by
  obtain ⟨j, rfl⟩ := Nat.dvd_of_mod_eq_zero h
  induction j with
  | zero => rw [Nat.mul_zero, Nat.pow_zero, Nat.one_mul]
  | succ j ih =>
    have e : 256 ^ (2 * (j + 1)) * n = 256 * (256 * (256 ^ (2 * j) * n)) := by ring
    rw [e]
    exact (sameSum_shift_twice _).trans (ih (by omega))

theorem sameSum_shift_of_odd {k : Nat} (h : k % 2 = 1) (n : Nat) : SameSum (256 ^ k * n) (256 * n) := by
  obtain ⟨j, rfl⟩ : ∃ j, k = j + 1 := ⟨k - 1, by omega⟩
  rw [Nat.pow_succ, Nat.mul_assoc]
  exact sameSum_shift_of_even (by omega) _

/-! `fold` and `swap16`. -/

/-- One turn of `fold`: the high half is added to the low one. -/
theorem sameSum_carry (n : Nat) : SameSum (n % 2 ^ 16 + n / 2 ^ 16) n :=
  ⟨by unfold Nat.ModEq; omega, by omega⟩

theorem foldLoop_spec {fuel n : Nat} (h : n ≤ fuel) : foldLoop fuel n < 2 ^ 16 ∧ SameSum (foldLoop fuel n) n := by
  induction fuel generalizing n with
  | zero =>
    obtain rfl := Nat.le_zero.mp h
    exact ⟨by decide, .refl 0⟩
  | succ fuel ih =>
    unfold foldLoop
    split
    · obtain ⟨small, same⟩ := ih (n := n % 2 ^ 16 + n / 2 ^ 16) (by omega)
      exact ⟨small, same.trans (sameSum_carry n)⟩
    · exact ⟨by omega, .refl n⟩

theorem toNat_fold_sameSum (n : Nat) : SameSum (fold n).toNat n := by
  obtain ⟨small, same⟩ := foldLoop_spec (Nat.le_refl n)
  unfold fold
  rwa [BitVec.toNat_ofNat, Nat.mod_eq_of_lt small]

/-- The folded sum is the only 16-bit number of its class. -/
theorem eq_of_toNat_sameSum {v w : Half} (h : SameSum v.toNat w.toNat) : v = w := by
  have hmod : v.toNat % 65535 = w.toNat % 65535 := h.mod
  have hzero := h.zero
  exact BitVec.eq_of_toNat_eq (by omega)

theorem eq_fold {v : Half} {n : Nat} (h : SameSum v.toNat n) : v = fold n :=
  eq_of_toNat_sameSum (h.trans (toNat_fold_sameSum n).symm)

theorem fold_eq_fold_iff {m n : Nat} : fold m = fold n ↔ SameSum m n :=
  ⟨fun e => (toNat_fold_sameSum m).symm.trans (e ▸ toNat_fold_sameSum n),
    fun h => eq_fold ((toNat_fold_sameSum m).trans h)⟩

theorem toNat_append_bytes (x y : Byte) : (x ++ y : Half).toNat = x.toNat * 256 + y.toNat := by
  rw [BitVec.toNat_append, ← Nat.shiftLeft_add_eq_or_of_lt y.isLt, Nat.shiftLeft_eq]

theorem toNat_highByte (v : Half) : (v.extractLsb' 8 8).toNat = v.toNat / 256 := by
  rw [BitVec.extractLsb'_toNat, Nat.shiftRight_eq_div_pow]
  omega

theorem toNat_lowByte (v : Half) : (v.extractLsb' 0 8).toNat = v.toNat % 256 :=
  BitVec.extractLsb'_toNat ..

theorem toNat_swap16 (v : Half) : (swap16 v).toNat = v.toNat % 256 * 256 + v.toNat / 256 := by
  rw [swap16, toNat_append_bytes, toNat_highByte, toNat_lowByte]

/-- A byte swap is a shift by one byte position (40_checksum.md R133). -/
theorem toNat_swap16_sameSum (v : Half) : SameSum (swap16 v).toNat (256 * v.toNat) := by
  rw [toNat_swap16]
  exact ⟨by unfold Nat.ModEq; omega, by omega⟩

theorem swap16_fold (n : Nat) : swap16 (fold n) = fold (256 * n) :=
  eq_fold ((toNat_swap16_sameSum _).trans ((toNat_fold_sameSum n).mul_left 256))

/-! The word sum (40_checksum.md R130). -/

/-- A byte in front moves the rest by one position. -/
theorem wsum_cons_sameSum (b : Byte) (l : Bytes) : SameSum (wsum (b :: l)) (256 * (b.toNat + wsum l)) := by
  induction l generalizing b with
  | nil => simp only [wsum, Nat.add_zero, Nat.mul_comm]; rfl
  | cons c l ih =>
    have rest := (ih c).mul_left 256
    calc wsum (b :: c :: l)
      _ = 256 * b.toNat + (c.toNat + wsum l) := by rw [wsum]; ring
      SameSum _ (256 * b.toNat + 256 * wsum (c :: l)) :=
        .add (.refl _) ((sameSum_shift_twice _).symm.trans rest.symm)
      _ = 256 * (b.toNat + wsum (c :: l)) := by ring

theorem wsum_append_sameSum (l r : Bytes) : SameSum (wsum (l ++ r)) (wsum l + 256 ^ l.length * wsum r) := by
  induction l with
  | nil => simp only [List.nil_append, wsum, List.length_nil, Nat.pow_zero, Nat.one_mul, Nat.zero_add]; rfl
  | cons b l ih =>
    have tail := (SameSum.add (.refl b.toNat) ih).mul_left 256
    have regroup : 256 * (b.toNat + (wsum l + 256 ^ l.length * wsum r)) =
        256 * (b.toNat + wsum l) + 256 ^ (b :: l).length * wsum r := by
      rw [List.length_cons]; ring
    rw [regroup] at tail
    exact (wsum_cons_sameSum ..).trans (tail.trans (.add (wsum_cons_sameSum ..).symm (.refl _)))

theorem wsum_append_of_even {l : Bytes} (h : l.length % 2 = 0) (r : Bytes) :
    SameSum (wsum (l ++ r)) (wsum l + wsum r) :=
  (wsum_append_sameSum l r).trans (.add (.refl _) (sameSum_shift_of_even h _))

/-- Any total of the right class gives the checksum, so partial sums may be folded before they are added. -/
theorem checksum_eq_of_sameSum {p : Params} {b : Bytes} {n : Nat} (h : SameSum n (p.csumPreset.toNat + wsum b)) :
    cpl (fold n) = checksum p b :=
  congrArg cpl (fold_eq_fold_iff.mpr h)

/-! The lane datapath (40_checksum.md R132, R133). -/

theorem laneAcc_eq (m : Memory) (a : Word) (n acc : Nat) : laneAcc m a n acc = acc + wsum (memRead m a n) := by
  induction a, n, acc using laneAcc.induct m with
  | case1 a acc => rfl
  | case2 a acc => rfl
  | case3 a n acc ih =>
    have next : a + 1 + 1 = a + 2 := by rw [BitVec.add_assoc]; rfl
    rw [laneAcc, ih, memRead, memRead, wsum, next]
    ring

theorem laneSum_eq_fold_wsum (m : Memory) (a : Word) (n : Nat) : laneSum m a n = fold (wsum (memRead m a n)) := by
  unfold laneSum
  dsimp only
  simp only [laneAcc_eq, Nat.zero_add]
  split
  case isTrue h =>
    obtain ⟨n, rfl⟩ : ∃ k, n = k + 1 := ⟨n - 1, by omega⟩
    rw [swap16_fold, memRead]
    exact fold_eq_fold_iff.mpr (wsum_cons_sameSum ..).symm
  case isFalse h =>
    split
    case isTrue odd =>
      obtain rfl : n = 0 := by omega
      exact swap16_fold 0
    case isFalse => rfl

/-- Settles O22: the lane sum is the folded word sum, and folding it again into the preset loses nothing. -/
theorem laneDatapathIsChecksum : Obligations.LaneDatapathIsChecksum := by
  unfold Obligations.LaneDatapathIsChecksum
  intro p m a n
  refine ⟨laneSum_eq_fold_wsum m a n, ?_⟩
  unfold laneChecksum
  rw [laneSum_eq_fold_wsum]
  exact checksum_eq_of_sameSum (.add (.refl _) (toNat_fold_sameSum _))

/-! The scattered datapath (40_checksum.md R134 to R136). -/

/-- The second swap of R135 puts a portion at its position in the region. -/
theorem swapAt_sameSum (pos : Nat) (t : Half) :
    SameSum (if pos % 2 = 1 then swap16 t else t).toNat (256 ^ pos * t.toNat) := by
  split
  case isTrue odd => exact (toNat_swap16_sameSum t).trans (sameSum_shift_of_odd odd _).symm
  case isFalse even => exact (sameSum_shift_of_even (by omega) _).symm

theorem portionAcc_sameSum (m : Memory) (portions : List (Word × Nat)) (pos acc : Nat) :
    SameSum (portionAcc m portions pos acc) (acc + 256 ^ pos * wsum (pieceBytes m portions)) := by
  induction portions generalizing pos acc with
  | nil => rfl
  | cons portion rest ih =>
    obtain ⟨a, n⟩ := portion
    have here : SameSum (if pos % 2 = 1 then swap16 (laneSum m a n) else laneSum m a n).toNat
        (256 ^ pos * wsum (memRead m a n)) := by
      rw [laneSum_eq_fold_wsum]
      exact (swapAt_sameSum pos _).trans ((toNat_fold_sameSum _).mul_left _)
    have whole := wsum_append_sameSum (memRead m a n) (pieceBytes m rest)
    rw [memRead_length] at whole
    have regroup : acc + 256 ^ pos * wsum (memRead m a n) + 256 ^ (pos + n) * wsum (pieceBytes m rest) =
        acc + 256 ^ pos * (wsum (memRead m a n) + 256 ^ n * wsum (pieceBytes m rest)) := by ring
    have added := SameSum.add (.add (.refl acc) here) (.refl (256 ^ (pos + n) * wsum (pieceBytes m rest)))
    rw [regroup] at added
    exact (ih ..).trans (added.trans (.add (.refl _) (whole.symm.mul_left _)))

theorem portionChecksum_eq_checksum (p : Params) (m : Memory) (portions : List (Word × Nat)) :
    portionChecksum p m portions = checksum p (pieceBytes m portions) := by
  refine checksum_eq_of_sameSum ?_
  have h := portionAcc_sameSum m portions 0 p.csumPreset.toNat
  rwa [Nat.pow_zero, Nat.one_mul] at h

theorem take_memRead (m : Memory) (a : Word) (n j : Nat) : (memRead m a n).take j = memRead m a (min j n) := by
  rcases Nat.le_total j n with inside | past
  · obtain ⟨k, rfl⟩ := Nat.exists_eq_add_of_le inside
    rw [memRead_append, List.take_left' (memRead_length ..), Nat.min_eq_left inside]
  · rw [Nat.min_eq_right past, List.take_of_length_le (by rwa [memRead_length])]

theorem drop_memRead (m : Memory) (a : Word) (n i : Nat) :
    (memRead m a n).drop i = memRead m (a + BitVec.ofNat 32 i) (n - i) := by
  rcases Nat.le_total i n with inside | past
  · obtain ⟨k, rfl⟩ := Nat.exists_eq_add_of_le inside
    rw [memRead_append, List.drop_left' (memRead_length ..), Nat.add_sub_cancel_left]
  · rw [Nat.sub_eq_zero_of_le past, List.drop_of_length_le (by rwa [memRead_length])]
    rfl

/-- A part of what is read is read at the address past the bytes skipped. -/
theorem slice_memRead (m : Memory) (a : Word) (n i j : Nat) :
    slice (memRead m a n) i j = memRead m (a + BitVec.ofNat 32 i) (min j n - i) := by
  rw [slice, take_memRead, drop_memRead]

theorem slice_append (l r : Bytes) (i j : Nat) :
    slice (l ++ r) i j = slice l i j ++ slice r (i - l.length) (j - l.length) := by
  unfold slice
  rw [List.take_append, List.drop_append, List.length_take]
  rcases Nat.le_total l.length j with inside | short
  · rw [Nat.min_eq_right inside]
  · rw [Nat.sub_eq_zero_of_le short, List.take_zero, List.drop_nil, List.drop_nil]

/-- The part of one chunk that lies in the region, the chunk standing at position `pos` (40_checksum.md R135). -/
theorem pieceBytes_portion (m : Memory) (a : Word) (n lo hi pos : Nat) :
    pieceBytes m (if max lo pos < min hi (pos + n) then
      [(a + BitVec.ofNat 32 (max lo pos - pos), min hi (pos + n) - max lo pos)] else []) =
    slice (memRead m a n) (lo - pos) (hi - pos) := by
  rw [slice_memRead]
  split
  case isTrue meets =>
    have start : max lo pos - pos = lo - pos := by omega
    have size : min hi (pos + n) - max lo pos = min (hi - pos) n - (lo - pos) := by omega
    rw [start, size, pieceBytes, pieceBytes, List.append_nil]
  case isFalse misses =>
    have nothing : min (hi - pos) n - (lo - pos) = 0 := by omega
    rw [nothing]
    rfl

theorem pieceBytes_regionPortions (m : Memory) (chunks : List (Word × Nat)) (lo hi pos : Nat) :
    pieceBytes m (regionPortions lo hi pos chunks) = slice (pieceBytes m chunks) (lo - pos) (hi - pos) := by
  induction chunks generalizing pos with
  | nil => simp [regionPortions, pieceBytes, slice]
  | cons c rest ih =>
    obtain ⟨a, n⟩ := c
    rw [regionPortions, pieceBytes_append, pieceBytes_portion, ih, pieceBytes, slice_append, memRead_length,
      Nat.sub_sub, Nat.sub_sub]

/-- The datapath over the chunks gives the checksum of the clipped region (40_checksum.md R134). -/
theorem scatteredChecksum_eq_checksum (p : Params) (m : Memory) (chunks : List (Word × Nat)) (offset length : Nat) :
    scatteredChecksum p m chunks offset length = checksum p (clip (pieceBytes m chunks) offset length) := by
  unfold scatteredChecksum clip
  rw [portionChecksum_eq_checksum, pieceBytes_regionPortions, pieceBytes_length, Nat.sub_zero, Nat.sub_zero]

/-! The commands (40_checksum.md R131, R134, R137). -/

section commands
variable {s : State}

theorem written_of_eq_some {i : Fin 8} {v : Word} (h : s.a[i] = some v) : s.written i = true :=
  Option.isSome_iff_exists.mpr ⟨v, h⟩

theorem reg_of_eq_some {i : Fin 8} {v : Word} (h : s.a[i] = some v) : s.reg i = v := by
  rw [State.reg, h, Option.getD_some]

/-- A command that needs no lock and only leaves a result: `R0` and `ST` are written, nothing else. -/
theorem runCommand_result {rs : List (Fin 8)} (hr : rs.all s.written = true) (result : State → Word) :
    runCommand s false rs true (fun u => done (setR0 u (result u)) .ok) =
      { s with r0 := result (setR0 s 0), st := 0 } :=
  runCommand_runs s _ _ _ _ (fun h => nomatch h) hr rfl

theorem exec_csum {addr n : Word} (h0 : s.a[(0 : Fin 8)] = some addr) (h1 : s.a[(1 : Fin 8)] = some n) :
    exec .csum s = .next { s with r0 := (checksum s.par (memRead s.mem addr n.toNat)).setWidth 32, st := 0 } := by
  have hr : [0, 1].all s.written = true := by simp [written_of_eq_some h0, written_of_eq_some h1]
  rw [← reg_of_eq_some h0, ← reg_of_eq_some h1]
  exact congrArg Host.Outcome.next (runCommand_result hr _)

variable {t off len : Word} (h0 : s.a[(0 : Fin 8)] = some t) (h1 : s.a[(1 : Fin 8)] = some off)
  (h2 : s.a[(2 : Fin 8)] = some len)
include h0 h1 h2

theorem exec_csumx (c : Byte) :
    exec (.csumx c) s = .next { s with
      r0 := (checksum s.par (clip (chunkBytes s.mem t c.toNat) off.toNat len.toNat)).setWidth 32, st := 0 } := by
  have hr : [0, 1, 2].all s.written = true := by
    simp [written_of_eq_some h0, written_of_eq_some h1, written_of_eq_some h2]
  rw [← reg_of_eq_some h0, ← reg_of_eq_some h1, ← reg_of_eq_some h2]
  exact congrArg Host.Outcome.next (runCommand_result hr _)

theorem exec_csumul (proto : Byte) (plen : Half) {src dst c : Word} (h3 : s.a[(3 : Fin 8)] = some src)
    (h4 : s.a[(4 : Fin 8)] = some dst) (h5 : s.a[(5 : Fin 8)] = some c) :
    exec (.csumul proto plen) s = .next { s with
      r0 := (upperChecksum s.par (pseudoHeader src dst proto plen)
        (clip (chunkBytes s.mem t c.toNat) off.toNat len.toNat)).setWidth 32, st := 0 } := by
  have hr : [0, 1, 2, 3, 4, 5].all s.written = true := by
    simp [written_of_eq_some h0, written_of_eq_some h1, written_of_eq_some h2, written_of_eq_some h3,
      written_of_eq_some h4, written_of_eq_some h5]
  rw [← reg_of_eq_some h0, ← reg_of_eq_some h1, ← reg_of_eq_some h2, ← reg_of_eq_some h3, ← reg_of_eq_some h4,
    ← reg_of_eq_some h5]
  exact congrArg Host.Outcome.next (runCommand_result hr _)

end commands

/-- Settles O21: each command passes its checks and leaves its result. -/
theorem checksumCommandResults : Obligations.ChecksumCommandResults := by
  unfold Obligations.ChecksumCommandResults
  exact fun s => ⟨fun _ _ => exec_csum, fun c _ _ _ h0 h1 h2 => exec_csumx h0 h1 h2 c,
    fun proto plen _ _ _ _ _ _ h0 h1 h2 => exec_csumul h0 h1 h2 proto plen⟩

/-- Settles O23: each portion is put at its position, and the portions of a region are its bytes in order. -/
theorem scatteredDatapathIsChecksum : Obligations.ScatteredDatapathIsChecksum := by
  unfold Obligations.ScatteredDatapathIsChecksum
  refine ⟨portionChecksum_eq_checksum, fun m chunks lo hi => pieceBytes_regionPortions m chunks lo hi 0, ?_⟩
  intro s c t off len h0 h1 h2
  rw [scatteredChecksum_eq_checksum, ← chunkBytes_eq_pieceBytes]
  exact exec_csumx h0 h1 h2 c

/-! Generation (40_checksum.md R141, R142). -/

theorem toNat_cpl (v : Half) : (cpl v).toNat = 65535 - v.toNat := by
  have e : cpl v = ~~~v := by rw [← BitVec.xor_allOnes]; rfl
  rw [e, BitVec.toNat_not]

theorem osum_add_checksum (p : Params) (b : Bytes) : (osum p b).toNat + (checksum p b).toNat = 65535 := by
  rw [checksum, toNat_cpl]
  omega

theorem wsum_enc16_append (v : Half) (l : Bytes) : wsum (enc16 v ++ l) = v.toNat + wsum l := by
  show (v.extractLsb' 8 8).toNat * 256 + (v.extractLsb' 0 8).toNat + wsum l = _
  rw [toNat_highByte, toNat_lowByte]
  omega

/-- A string cut at a 2-byte field. -/
theorem eq_take_append_field {b : Bytes} {k : Nat} (h : k + 2 ≤ b.length) :
    b = b.take k ++ ([byteAt b k, byteAt b (k + 1)] ++ b.drop (k + 2)) := by
  have field : b.drop k = [byteAt b k, byteAt b (k + 1)] ++ b.drop (k + 2) := by
    rw [byteAt, byteAt, List.getD_eq_getElem _ _ (by omega), List.getD_eq_getElem _ _ (by omega),
      List.drop_eq_getElem_cons (by omega), List.drop_eq_getElem_cons (by omega)]
    rfl
  rw [← field, List.take_append_drop]

theorem overwrite_enc16 {b : Bytes} {k : Nat} (h : k + 2 ≤ b.length) (v : Half) :
    overwrite b k (enc16 v) = b.take k ++ (enc16 v ++ b.drop (k + 2)) := by
  have fits : (enc16 v).take (b.length - k) = enc16 v := List.take_of_length_le (show 2 ≤ _ by omega)
  rw [overwrite, fits, List.append_assoc]
  rfl

/-- Filling a zero field at an even offset adds the value to the sum. -/
theorem wsum_overwrite_field {b : Bytes} {k : Nat} (even : k % 2 = 0) (h : k + 2 ≤ b.length) (hi : byteAt b k = 0)
    (lo : byteAt b (k + 1) = 0) (v : Half) :
    SameSum (wsum (overwrite b k (enc16 v))) (v.toNat + wsum b) := by
  have front : (b.take k).length % 2 = 0 := by rw [List.length_take]; omega
  have field (w : Half) : SameSum (wsum (b.take k ++ (enc16 w ++ b.drop (k + 2))))
      (w.toNat + (wsum (b.take k) + wsum (b.drop (k + 2)))) := by
    have e := wsum_append_of_even front (enc16 w ++ b.drop (k + 2))
    rwa [wsum_enc16_append, Nat.add_left_comm] at e
  have before : b = b.take k ++ (enc16 0 ++ b.drop (k + 2)) := by
    have e := eq_take_append_field h
    rwa [hi, lo] at e
  have whole := field 0
  rw [← before, show (0 : Half).toNat = 0 from rfl, Nat.zero_add] at whole
  rw [overwrite_enc16 h]
  exact (field v).trans (.add (.refl _) whole.symm)

/-- Settles O24: the sum and its complement add up to all ones, whatever the preset. -/
theorem generatedChecksumVerifies : Obligations.GeneratedChecksumVerifies := by
  unfold Obligations.GeneratedChecksumVerifies
  intro p b k _ even h hi lo
  have filled := wsum_overwrite_field even h hi lo (checksum p b)
  have known : SameSum ((osum p b).toNat + (checksum p b).toNat)
      (p.csumPreset.toNat + wsum b + (checksum p b).toNat) := .add (toNat_fold_sameSum _) (.refl _)
  rw [osum_add_checksum, Nat.add_assoc, Nat.add_comm (wsum b)] at known
  have allOnes : SameSum (0xFFFF#16).toNat (p.csumPreset.toNat + wsum (overwrite b k (enc16 (checksum p b)))) :=
    known.trans (.add (.refl _) filled.symm)
  rw [checksum, osum, ← eq_fold allOnes]
  rfl

end Sys2Proof.Proofs
end

section
/-! The protocol demultiplexer (41_ip_admission.md R165 to R167): IPDEMUX. -/

namespace Sys2Proof.Proofs

open Machine Claims

/-- A command that drops before it has written anything else is a refusal (60_exceptions.md R311, R312). -/
theorem drop_setR0_eq_refused (s : State) (c : Cause) : drop (setR0 s 0) c = refused s c := rfl

theorem hasIface_of_lt {s : State} {ifx : Byte} (h : ifx.toNat < s.par.nIf) : s.hasIface ifx = true :=
  decide_eq_true h

theorem exec_ipdemux {s : State} {ifx : Byte} (h : ifx.toNat < s.par.nIf) (d : Bytes) :
    exec (.ipdemux ifx d) s = .next (demux ifx d s) :=
  if_pos (hasIface_of_lt h)

theorem exec_reasm {s : State} {ifx : Byte} (h : ifx.toNat < s.par.nIf) (d : Bytes) :
    exec (.reasm ifx d) s = .next (reassemble ifx d s) :=
  if_pos (hasIface_of_lt h)

theorem exec_tcprx {s : State} {ifx : Byte} (h : ifx.toNat < s.par.nIf) (src dst : Word) (seg : Bytes) :
    exec (.tcprx ifx src dst seg) s = .next (receiveTcp ifx src dst seg s) :=
  if_pos (hasIface_of_lt h)

/-- The protocols with an outside handler (41_ip_admission.md R165). -/
theorem demux_handUp {d : Bytes} {kind : UpKind}
    (h : (byteAt d 9, kind) ∈ [((17 : Byte), UpKind.udp), (1, .icmp), (2, .igmp)]) (ifx : Byte) (s : State) :
    demux ifx d s = handUp kind ifx d s := by
  simp only [List.mem_cons, Prod.mk.injEq, List.not_mem_nil, or_false] at h
  unfold demux protoOf
  rcases h with ⟨e, rfl⟩ | ⟨e, rfl⟩ | ⟨e, rfl⟩ <;> rw [e] <;> rfl

theorem demux_unknown {d : Bytes} (h : byteAt d 9 ∉ [(1 : Byte), 2, 6, 17]) (ifx : Byte) (s : State) :
    demux ifx d s = drop (raiseIcmp s ifx 3 2 0 d) .ipUnknownProto := by
  simp only [List.mem_cons, List.not_mem_nil, or_false, not_or] at h
  obtain ⟨icmp, igmp, tcp, udp⟩ := h
  unfold demux protoOf
  rw [if_neg tcp, if_neg udp, if_neg icmp, if_neg igmp]

theorem demux_tcp {d : Bytes} (h : byteAt d 9 = 6) (ifx : Byte) (s : State) : demux ifx d s = demuxTcp ifx d s :=
  if_pos h

/-- Settles O38: each protocol number selects one arm of the demultiplexer. -/
theorem ipdemuxSelectsHandler : Obligations.IpdemuxSelectsHandler := by
  unfold Obligations.IpdemuxSelectsHandler
  intro s ifx d hi
  dsimp only
  rw [exec_ipdemux hi, exec_tcprx hi]
  refine ⟨fun kind h => ?_, fun h => ?_, fun h => ⟨_, rfl, ?_⟩⟩
  · rw [demux_handUp h]; rfl
  · rw [demux_unknown h]; rfl
  · rw [demux_tcp h]; rfl

end Sys2Proof.Proofs
end

section
/-! The IP send path (41_ip_admission.md R170 to R172): IPTX. -/

namespace Sys2Proof.Proofs

open Machine Claims

theorem exec_ipfrag {s : State} {ifx : Byte} (h : ifx.toNat < s.par.nIf) (tos : Byte) (id : Half) (ttl proto : Byte)
    (src dst : Word) (pay : Bytes) :
    exec (.ipfrag ifx tos id ttl proto src dst pay) s =
      .next (sendFragments ⟨ifx, tos, id, ttl, proto, src, dst⟩ pay s) :=
  if_pos (hasIface_of_lt h)

theorem exec_iptx {s : State} {ifx : Byte} (proto : Byte) {tab off len src dst cnt w : Word}
    (hl : s.lock = .held s.tid) (hi : ifx.toNat < s.par.nIf) (h0 : s.a[(0 : Fin 8)] = some tab)
    (h1 : s.a[(1 : Fin 8)] = some off) (h2 : s.a[(2 : Fin 8)] = some len) (h3 : s.a[(3 : Fin 8)] = some src)
    (h4 : s.a[(4 : Fin 8)] = some dst) (h5 : s.a[(5 : Fin 8)] = some cnt) (h6 : s.a[(6 : Fin 8)] = some w) :
    exec (.iptx ifx proto) s = .next (sendIp ifx src dst proto (w.extractLsb' 8 8) (w.extractLsb' 0 8)
      (clipped (chunkBytes s.mem tab cnt.toNat) off len) (setR0 s 0)) := by
  have hr : [0, 1, 2, 3, 4, 5, 6].all s.written = true := by
    simp [written_of_eq_some h0, written_of_eq_some h1, written_of_eq_some h2, written_of_eq_some h3,
      written_of_eq_some h4, written_of_eq_some h5, written_of_eq_some h6]
  rw [← reg_of_eq_some h0, ← reg_of_eq_some h1, ← reg_of_eq_some h2, ← reg_of_eq_some h3, ← reg_of_eq_some h4,
    ← reg_of_eq_some h5, ← reg_of_eq_some h6]
  exact congrArg Host.Outcome.next (runCommand_runs s _ _ _ _ (fun _ => hl) hr (hasIface_of_lt hi))

/-- The link's answer is taken from the script or from the free values; nothing else is read or written. -/
theorem linkAsked_eq (s : State) :
    linkAsked s = { s with link := s.link.tail, free := if s.link = [] then s.free + 1 else s.free } := by
  unfold linkAsked
  split
  case h_1 scripted => simp [scripted]
  case h_2 empty => simp [empty]

/-- A packet that takes the next identification: the link is asked once, and the packet joins `TXQ` if it accepts. -/
theorem emitState_advanceId (s : State) (v : Word) (i : Nat) (e : TxEntry) :
    emitState (advanceId (setR0 s v) i) e = { linkAsked s with
      ifs := (advanceId s i).ifs, r0 := v, txq := if linkAnswer s then s.txq ++ [e] else s.txq } := by
  unfold emitState
  rw [linkAsked_eq, linkAsked_eq, advanceId_linkAnswer, setR0_linkAnswer]
  split <;> rfl

section datagrams
variable {s : State} {ifx : Byte} (src dst : Word) (proto ttl tos : Byte) {pay : Bytes}

theorem sendIp_of_mtu_zero (hm : (s.iface ifx.toNat).mtu = 0) :
    sendIp ifx src dst proto ttl tos pay s = drop (setR0 s 0) .txBadMtu :=
  if_pos hm

theorem sendIp_oversized (hm : (s.iface ifx.toNat).mtu ≠ 0) (hp : 65535 < 20 + pay.length) :
    sendIp ifx src dst proto ttl tos pay s = drop (setR0 s 0) .badOperand := by
  unfold sendIp
  dsimp only
  rw [if_neg hm, if_pos hp]

/-- What fits the MTU has a length that the header can hold, and is one packet (41_ip_admission.md R170). -/
theorem sendIp_fitting (hm : (s.iface ifx.toNat).mtu ≠ 0) (hp : 20 + pay.length ≤ (s.iface ifx.toNat).mtu.toNat) :
    sendIp ifx src dst proto ttl tos pay s =
      let t := emitState (advanceId s ifx.toNat)
        (packetOf s.par ⟨ifx, tos, (s.iface ifx.toNat).ipId, ttl, proto, src, dst⟩ 0 pay)
      if linkAnswer s then done (setR0 t 1) .ok else drop (setR0 t 0) .txFail := by
  have small : ¬ 65535 < 20 + pay.length := by omega
  unfold sendIp
  dsimp only
  rw [if_neg hm, if_neg small, if_pos hp, advanceId_linkAnswer, advanceId_par]

theorem sendIp_fragmenting (hm : (s.iface ifx.toNat).mtu ≠ 0) (hp : 20 + pay.length ≤ 65535)
    (hf : (s.iface ifx.toNat).mtu.toNat < 20 + pay.length) :
    sendIp ifx src dst proto ttl tos pay s =
      sendFragments ⟨ifx, tos, (s.iface ifx.toNat).ipId, ttl, proto, src, dst⟩ pay (advanceId s ifx.toNat) := by
  unfold sendIp
  dsimp only
  rw [if_neg hm, if_neg (Nat.not_lt.mpr hp), if_neg (Nat.not_le.mpr hf)]

end datagrams

/-- Settles O36: the MTU, the length and the link's answer select one of the four ends of the send path. -/
theorem iptxSendsOrFragments : Obligations.IptxSendsOrFragments := by
  unfold Obligations.IptxSendsOrFragments
  intro s ifx proto tab off len src dst cnt w hl hi h0 h1 h2 h3 h4 h5 h6
  dsimp only
  rw [exec_iptx proto hl hi h0 h1 h2 h3 h4 h5 h6]
  refine ⟨fun hm => ?_, fun hm hp => ?_, fun hm hp => ?_, fun hm hp hf => ?_⟩
  · exact congrArg Host.Outcome.next (sendIp_of_mtu_zero (s := setR0 s 0) _ _ _ _ _ hm)
  · exact congrArg Host.Outcome.next (sendIp_oversized (s := setR0 s 0) _ _ _ _ _ hm hp)
  · refine congrArg Host.Outcome.next ((sendIp_fitting (s := setR0 s 0) _ _ _ _ _ hm hp).trans ?_)
    dsimp only
    rw [emitState_advanceId, setR0_linkAnswer, linkAsked_eq]
    by_cases accepted : linkAnswer s = true
    case pos => rw [if_pos accepted, if_pos accepted, if_pos accepted]; rfl
    case neg => rw [if_neg accepted, if_neg accepted, if_neg accepted]; rfl
  · exact ⟨_, exec_ipfrag (s := advanceId (setR0 s 0) ifx.toNat) hi ..,
      congrArg Host.Outcome.next (sendIp_fragmenting (s := setR0 s 0) _ _ _ _ _ hm hp hf)⟩

end Sys2Proof.Proofs
end

section
/-! The admission pipeline (41_ip_admission.md R150 to R161): IPRX. -/

namespace Sys2Proof.Proofs

open Machine Claims

/-! The address tests (41_ip_admission.md R156, R157). -/

/-- A directed broadcast address has ones past its network bits (10_state.md R28). -/
theorem prefixMask_xor_allOnes {n : Nat} (h : n ≤ 32) : prefixMask n ^^^ 0xFFFFFFFF#32 = 0xFFFFFFFF#32 >>> n := by
  have ones : (0xFFFFFFFF#32) = BitVec.allOnes 32 := rfl
  unfold prefixMask
  rw [ones]
  split
  case isTrue zero => subst zero; simp
  case isFalse pos =>
    ext i hi
    simp only [BitVec.getElem_xor, BitVec.getElem_shiftLeft, BitVec.getElem_ushiftRight, BitVec.getElem_allOnes,
      BitVec.getLsbD_allOnes]
    by_cases hin : i < 32 - n <;> simp [hin] <;> omega

theorem isBcast_iff {f : Iface} {a : Word} : isBcast f a = true ↔ broadcastOn f a := by
  have entry (e : AddrEntry) : (e.live && decide (1 ≤ e.plen.toNat) && decide (e.plen.toNat ≤ 30) &&
      decide (a = e.broadcast)) = true ↔
      e.status ≠ .invalid ∧ 1 ≤ e.plen.toNat ∧ e.plen.toNat ≤ 30 ∧ a = e.a ||| (0xFFFFFFFF#32 >>> e.plen.toNat) := by
    simp only [Bool.and_eq_true, decide_eq_true_eq, and_assoc, AddrEntry.live]
    refine and_congr_right fun _ => and_congr_right fun _ => and_congr_right fun h => ?_
    rw [AddrEntry.broadcast, prefixMask_xor_allOnes (by omega)]
  simp only [isBcast, Bool.or_eq_true, decide_eq_true_eq, List.any_eq_true, entry]
  rfl

theorem isMcast_iff {a : Word} : isMcast a = true ↔ multicast a := decide_eq_true_iff

theorem joined_iff {f : Iface} {a : Word} : joined f a = true ↔ multicast a ∧ a ∈ f.mcast := by
  simp only [joined, Bool.and_eq_true, isMcast_iff, List.any_eq_true, decide_eq_true_eq, exists_eq_right']

theorem ownEntry_eq_some_iff {f : Iface} {a : Word} {e : AddrEntry} : ownEntry f a = some e ↔ ownedBy f a e := by
  have before (x : AddrEntry) : (!(x.live && decide (x.a = a))) = true ↔ x.status = .invalid ∨ x.a ≠ a := by
    simp only [AddrEntry.live, Bool.not_eq_true', Bool.and_eq_false_iff, decide_eq_false_iff_not, not_not]
  have holds (x : AddrEntry) : (x.live && decide (x.a = a)) = true ↔ x.status ≠ .invalid ∧ x.a = a := by
    simp only [AddrEntry.live, Bool.and_eq_true, decide_eq_true_eq]
  simp only [ownEntry, List.find?_eq_some_iff_append, before, holds]
  constructor
  · rintro ⟨⟨live, same⟩, l, r, place, earlier⟩
    exact ⟨l, r, place, live, same, earlier⟩
  · rintro ⟨l, r, place, live, same, earlier⟩
    exact ⟨⟨live, same⟩, l, r, place, earlier⟩

theorem ownEntry_eq_none_iff {f : Iface} {a : Word} : ownEntry f a = none ↔ ¬ ∃ e, ownedBy f a e := by
  simp only [← ownEntry_eq_some_iff, ← Option.isSome_iff_exists, Option.not_isSome_iff_eq_none]

section verdicts
variable {f : Iface} {a : Word} (p : Params)

theorem dstVerdict_tentative {e : AddrEntry} (h : ownedBy f a e) (ht : e.status = .tentative) :
    dstVerdict p f a = .tentative := by
  unfold dstVerdict
  rw [ownEntry_eq_some_iff.mpr h]
  exact if_pos ht

theorem dstVerdict_local (h : localTo f a) : dstVerdict p f a = .accept := by
  unfold dstVerdict
  rcases h with ⟨e, own, usable⟩ | ⟨unowned, group⟩
  · rw [ownEntry_eq_some_iff.mpr own]
    exact if_neg usable
  · rw [ownEntry_eq_none_iff.mpr unowned]
    rw [← isBcast_iff, ← joined_iff, ← Bool.or_eq_true] at group
    exact if_pos group

theorem dstVerdict_remote (unowned : ¬ ∃ e, ownedBy f a e) (h : ¬ localTo f a) :
    dstVerdict p f a = if p.forwarding then .forward else .notLocal := by
  have noGroup : ¬ (isBcast f a || joined f a) = true := by
    rw [Bool.or_eq_true, isBcast_iff, joined_iff]
    exact fun group => h (.inr ⟨unowned, group⟩)
  unfold dstVerdict
  rw [ownEntry_eq_none_iff.mpr unowned]
  exact if_neg noGroup

end verdicts

/-! Trimming (41_ip_admission.md R154) leaves the header fields. -/

section trim
variable {p : Bytes} {n : Nat}

theorem byteAt_take {i : Nat} (h : i < n) : byteAt (p.take n) i = byteAt p i := by
  simp only [byteAt, List.getD_eq_getElem?_getD, List.getElem?_take_of_lt h]

theorem be16_take {i : Nat} (h : i + 2 ≤ n) : be16 (p.take n) i = be16 p i := by
  unfold be16
  rw [byteAt_take (by omega), byteAt_take (by omega)]

theorem be32_take {i : Nat} (h : i + 4 ≤ n) : be32 (p.take n) i = be32 p i := by
  unfold be32
  rw [be16_take (by omega), be16_take (by omega)]

variable (h : 20 ≤ n)
include h

theorem srcOf_take : srcOf (p.take n) = be32 p 12 := be32_take (by omega)

theorem dstOf_take : dstOf (p.take n) = be32 p 16 := be32_take (by omega)

theorem protoOf_take : protoOf (p.take n) = byteAt p 9 := byteAt_take (by omega)

theorem fragField_take : fragField (p.take n) = be16 p 6 := be16_take (by omega)

theorem headerLen_take : headerLen (p.take n) = headerLen p := by
  unfold headerLen ihl
  rw [byteAt_take (by omega)]

end trim

/-! Admission (41_ip_admission.md R151 to R161). -/

/-- What becomes of a trimmed packet by the verdict on its destination (41_ip_admission.md R157, R158). -/
def afterVerdict (ifx : Byte) (d : Bytes) (s : State) : DstVerdict → State
  | .accept => admitWhole ifx d s
  | .tentative => drop s .ipTentative
  | .forward => done (pushUp s ⟨.forward, ifx, srcOf d, dstOf d, protoOf d, d⟩) .ipForwarded
  | .notLocal => drop s .ipNotLocal

theorem admitTrimmed_badSrc {ifx : Byte} {d : Bytes} {s : State}
    (h : broadcastOn (s.iface ifx.toNat) (srcOf d) ∨ multicast (srcOf d)) :
    admitTrimmed ifx d s = drop s .ipBadSrc := by
  rw [← isBcast_iff, ← isMcast_iff, ← Bool.or_eq_true] at h
  exact if_pos h

theorem admitTrimmed_goodSrc {ifx : Byte} {d : Bytes} {s : State}
    (h : ¬ (broadcastOn (s.iface ifx.toNat) (srcOf d) ∨ multicast (srcOf d))) :
    admitTrimmed ifx d s = afterVerdict ifx d s (dstVerdict s.par (s.iface ifx.toNat) (dstOf d)) := by
  rw [← isBcast_iff, ← isMcast_iff, ← Bool.or_eq_true] at h
  unfold admitTrimmed
  dsimp only
  rw [if_neg h]
  cases dstVerdict s.par (s.iface ifx.toNat) (dstOf d) <;> rfl

/-- The five tests of the header and the lengths passed (41_ip_admission.md R151 to R153). -/
theorem admitPacket_of_tests {p : Bytes} (h20 : ¬ p.length < 20) (hv : byteAt p 0 >>> 4 = 4) (hh : ¬ ihl p < 5)
    (ht : ¬ (be16 p 2).toNat < headerLen p) (hn : ¬ p.length < (be16 p 2).toNat) (ifx : Byte) (s : State) :
    admitPacket ifx p s = admitTrimmed ifx (p.take (be16 p 2).toNat) s := by
  unfold admitPacket totalLength
  rw [if_neg h20, if_neg (not_not.mpr hv), if_neg hh, if_neg ht, if_neg hn]

/-- The length tests leave at least a header of the least length. -/
theorem total_ge_20 {p : Bytes} (hh : 5 ≤ ihl p) (ht : headerLen p ≤ (be16 p 2).toNat) : 20 ≤ (be16 p 2).toNat := by
  unfold headerLen at ht
  omega

theorem exec_iprx {s : State} {ifx : Byte} {addr n : Word} (hl : s.lock = .held s.tid) (hi : ifx.toNat < s.par.nIf)
    (h0 : s.a[(0 : Fin 8)] = some addr) (h1 : s.a[(1 : Fin 8)] = some n) :
    exec (.iprx ifx) s = .next (admitPacket ifx (memRead s.mem addr n.toNat) (setR0 s 0)) := by
  have hr : [0, 1].all s.written = true := by simp [written_of_eq_some h0, written_of_eq_some h1]
  rw [← reg_of_eq_some h0, ← reg_of_eq_some h1]
  exact congrArg Host.Outcome.next (runCommand_runs s _ _ _ _ (fun _ => hl) hr (hasIface_of_lt hi))

theorem isFragment_iff {fo : Half} : isFragment fo = true ↔ fo &&& 0x3FFF ≠ 0 := bne_iff_ne

/-- Steps 6 and 7 of a trimmed packet read its header, which trimming leaves (41_ip_admission.md R159, R160). -/
theorem admitWhole_take {p : Bytes} {n : Nat} (h20 : 20 ≤ n) (hn : headerLen p ≤ n) (ifx : Byte) (s : State) :
    admitWhole ifx (p.take n) s =
      if checksum s.par (p.take (headerLen p)) ≠ 0 then drop s .ipBadChecksum
      else if isFragment (be16 p 6) then reassemble ifx (p.take n) s
      else demux ifx (p.take n) s := by
  unfold admitWhole
  rw [headerLen_take h20, List.take_take, Nat.min_eq_left hn, fragField_take h20]

section wellMade
variable {p : Bytes} {ifx : Byte} {s : State} (h : wellMade (s.iface ifx.toNat) p)
include h

/-- A well-made packet goes by the verdict on its destination. -/
theorem admitPacket_of_wellMade :
    admitPacket ifx p s = afterVerdict ifx (p.take (be16 p 2).toNat) s
      (dstVerdict s.par (s.iface ifx.toNat) (be32 p 16)) := by
  obtain ⟨h20, hv, hh, ht, hn, noBroadcast, noMulticast⟩ := h
  have header : 20 ≤ (be16 p 2).toNat := total_ge_20 hh ht
  rw [admitPacket_of_tests (Nat.not_lt.mpr h20) hv (Nat.not_lt.mpr hh) (Nat.not_lt.mpr ht) (Nat.not_lt.mpr hn),
    admitTrimmed_goodSrc, dstOf_take header]
  rw [srcOf_take header]
  exact not_or.mpr ⟨noBroadcast, noMulticast⟩

theorem admitPacket_of_tentative {e : AddrEntry} (own : ownedBy (s.iface ifx.toNat) (be32 p 16) e)
    (ht : e.status = .tentative) : admitPacket ifx p s = drop s .ipTentative := by
  rw [admitPacket_of_wellMade h, dstVerdict_tentative _ own ht]
  rfl

theorem admitPacket_of_remote (unowned : ¬ ∃ e, ownedBy (s.iface ifx.toNat) (be32 p 16) e)
    (remote : ¬ localTo (s.iface ifx.toNat) (be32 p 16)) :
    admitPacket ifx p s =
      afterVerdict ifx (p.take (be16 p 2).toNat) s (if s.par.forwarding then .forward else .notLocal) := by
  rw [admitPacket_of_wellMade h, dstVerdict_remote _ unowned remote]

theorem admitPacket_of_local (here : localTo (s.iface ifx.toNat) (be32 p 16)) :
    admitPacket ifx p s =
      if checksum s.par (p.take (headerLen p)) ≠ 0 then drop s .ipBadChecksum
      else if isFragment (be16 p 6) then reassemble ifx (p.take (be16 p 2).toNat) s
      else demux ifx (p.take (be16 p 2).toNat) s := by
  rw [admitPacket_of_wellMade h, dstVerdict_local _ here]
  obtain ⟨-, -, hh, ht, -, -, -⟩ := h
  exact admitWhole_take (total_ge_20 hh ht) ht ifx s

end wellMade

/-- Settles O34: the tests are those of the pipeline, in its order. -/
theorem iprxFirstFailingTestDrops : Obligations.IprxFirstFailingTestDrops := by
  unfold Obligations.IprxFirstFailingTestDrops
  intro s ifx addr n hl hi h0 h1
  dsimp only
  rw [exec_iprx hl hi h0 h1]
  generalize memRead s.mem addr n.toNat = p
  split_ifs with short version headerShort total truncated
  · rw [admitPacket, if_pos short, drop_setR0_eq_refused]
  · rw [admitPacket, if_neg short, if_pos version, drop_setR0_eq_refused]
  · rw [admitPacket, if_neg short, if_neg version, if_pos headerShort, drop_setR0_eq_refused]
  · rw [admitPacket, totalLength, if_neg short, if_neg version, if_neg headerShort, if_pos total, drop_setR0_eq_refused]
  · rw [admitPacket, totalLength, if_neg short, if_neg version, if_neg headerShort, if_neg total,
      if_pos truncated, drop_setR0_eq_refused]
  · refine ⟨fun bad => ?_, fun h => ⟨fun ⟨e, own, ht⟩ => ?_, fun unowned remote off => ?_, fun here sum => ?_⟩⟩
    · rw [admitPacket_of_tests short (not_not.mp version) headerShort total truncated]
      refine congrArg _ (admitTrimmed_badSrc ?_)
      rwa [srcOf_take (total_ge_20 (Nat.not_lt.mp headerShort) (Nat.not_lt.mp total))]
    · exact congrArg _ (admitPacket_of_tentative (s := setR0 s 0) h own ht)
    · refine congrArg _ ((admitPacket_of_remote (s := setR0 s 0) h unowned remote).trans ?_)
      rw [setR0_par, off]
      rfl
    · rw [admitPacket_of_local (s := setR0 s 0) h here]
      exact congrArg _ (if_pos sum)

/-- Settles O35: the verdict on the destination and the fragment field select the next operation. -/
theorem iprxDispatchesAdmitted : Obligations.IprxDispatchesAdmitted := by
  unfold Obligations.IprxDispatchesAdmitted
  intro s ifx addr n hl hi h0 h1
  dsimp only
  rw [exec_iprx hl hi h0 h1]
  generalize memRead s.mem addr n.toNat = p
  intro h
  refine ⟨fun unowned remote on => ?_, fun here sum => ⟨fun whole => ?_, fun frag => ?_⟩⟩
  · rw [admitPacket_of_remote (s := setR0 s 0) h unowned remote, setR0_par, on]
    obtain ⟨-, -, hh, ht, -, -, -⟩ := h
    have header : 20 ≤ (be16 p 2).toNat := total_ge_20 hh ht
    rw [if_pos rfl, afterVerdict, srcOf_take header, dstOf_take header, protoOf_take header]
    rfl
  · rw [admitPacket_of_local (s := setR0 s 0) h here, setR0_par, if_neg (not_not.mpr sum),
      if_neg (mt isFragment_iff.mp (not_not.mpr whole))]
    exact ⟨_, exec_ipdemux (s := setR0 s 0) hi _, rfl⟩
  · rw [admitPacket_of_local (s := setR0 s 0) h here, setR0_par, if_neg (not_not.mpr sum),
      if_pos (isFragment_iff.mpr frag)]
    exact ⟨_, exec_reasm (s := setR0 s 0) hi _, rfl⟩

end Sys2Proof.Proofs
end

section
/-! Outbound fragmentation (42_frag_reassembly.md R180 to R183): IPFRAG. -/

namespace Sys2Proof.Proofs

open Machine Claims

/-- A payload has a fragment `i` iff that fragment would begin before its end. -/
theorem lt_pieces_iff {m i : Nat} {pay : Bytes} (hm : 0 < m) : i < pieces m pay ↔ i * m < pay.length := by
  unfold pieces
  rw [Nat.lt_iff_add_one_le, Nat.le_div_iff_mul_le hm, Nat.add_mul]
  omega

/-- The state after `k` fragments have been accepted, `rest` being the answers to come. -/
def sentFragments (e : Nat → TxEntry) (s : State) (k : Nat) (rest : List Bool) : State :=
  { s with txq := s.txq ++ (List.range k).map e, link := rest, r0 := BitVec.ofNat 32 k }

theorem sentFragments_zero (e : Nat → TxEntry) (s : State) : sentFragments e s 0 s.link = setR0 s 0 := by
  simp [sentFragments, setR0]

theorem linkAnswer_sentFragments (e : Nat → TxEntry) (s : State) (k : Nat) (b : Bool) (rest : List Bool) :
    linkAnswer (sentFragments e s k (b :: rest)) = b := rfl

/-- The link accepts one more. -/
theorem sentFragments_accepted (e : Nat → TxEntry) (s : State) (k : Nat) (rest : List Bool) :
    setR0 (emitState (sentFragments e s k (true :: rest)) (e k)) ((sentFragments e s k (true :: rest)).r0 + 1) =
      sentFragments e s (k + 1) rest := by
  simp [sentFragments, setR0, emitState, linkAnswer, linkAsked, List.range_succ, BitVec.ofNat_add]

/-- The link refuses one. -/
theorem sentFragments_refused (e : Nat → TxEntry) (s : State) (k : Nat) (rest : List Bool) (x : TxEntry) :
    emitState (sentFragments e s k (false :: rest)) x = sentFragments e s k rest := rfl

theorem maxFragment_pos {mtu : Half} (h : 28 ≤ mtu.toNat) : 0 < maxFragment mtu := by
  unfold maxFragment
  omega

/-- An MTU of 28 or more carries a fragment (42_frag_reassembly.md R182). -/
theorem sendFragments_of_mtu {g : Datagram} {pay : Bytes} {s : State} (h : 28 ≤ (s.iface g.ifx.toNat).mtu.toNat) :
    sendFragments g pay s =
      fragmentLoop g (maxFragment (s.iface g.ifx.toNat).mtu) pay.length 0 pay (setR0 s 0) :=
  if_neg (Nat.not_lt.mpr h)

theorem fragmentLoop_nil (g : Datagram) (m fuel off : Nat) (t : State) :
    fragmentLoop g m fuel off [] t = done t .ok := by
  cases fuel <;> rfl

theorem fragmentLoop_of_ne_nil (g : Datagram) (m fuel off : Nat) {rest : Bytes} (h : rest ≠ []) (t : State) :
    fragmentLoop g m (fuel + 1) off rest t =
      let n := min m rest.length
      let u := emitState t (packetOf t.par g (fragmentField off (decide (n = rest.length))) (rest.take n))
      if linkAnswer t then fragmentLoop g m fuel (off + n) (rest.drop n) (setR0 u (t.r0 + 1)) else drop u .txFail := by
  cases rest with
  | nil => exact absurd rfl h
  | cons => rfl

/-- The payload's length is enough fuel: every fragment has at least one byte. -/
theorem fuel_left {m k : Nat} {pay : Bytes} (hm : 0 < m) (hk : k < pieces m pay) :
    pay.length - k = pay.length - (k + 1) + 1 := by
  have := (lt_pieces_iff hm).mp hk
  have := Nat.le_mul_of_pos_right k hm
  omega

section loop
variable {p : Params} {ifx tos : Byte} {id : Half} {ttl proto : Byte} {src dst : Word} {m : Nat} {pay : Bytes} {i : Nat}

/-- The entry of one turn of the loop is the fragment of its number. -/
theorem packetOf_eq_fragment (hm : 0 < m) (hi : i < pieces m pay) :
    packetOf p ⟨ifx, tos, id, ttl, proto, src, dst⟩
        (fragmentField (i * m) (decide (min m (pay.drop (i * m)).length = (pay.drop (i * m)).length)))
        ((pay.drop (i * m)).take (min m (pay.drop (i * m)).length)) =
      fragment p ifx tos id ttl proto src dst m pay i := by
  have isLast : min m (pay.drop (i * m)).length = (pay.drop (i * m)).length ↔ i + 1 = pieces m pay := by
    have next := lt_pieces_iff (i := i + 1) (pay := pay) hm
    rw [Nat.add_mul, Nat.one_mul] at next
    rw [List.length_drop]
    omega
  have piece : (pay.drop (i * m)).take (min m (pay.drop (i * m)).length) = (pay.drop (i * m)).take m := by
    rw [← List.take_take, List.take_length]
  unfold fragment fragmentField
  simp only [piece, isLast, decide_eq_true_eq]
  rfl

/-- A turn sends `m` bytes and goes on behind them; where fewer are left, nothing is left behind them. -/
theorem fragmentLoop_advance (g : Datagram) (fuel : Nat) (t : State) :
    fragmentLoop g m fuel (i * m + min m (pay.drop (i * m)).length)
        ((pay.drop (i * m)).drop (min m (pay.drop (i * m)).length)) t =
      fragmentLoop g m fuel ((i + 1) * m) (pay.drop ((i + 1) * m)) t := by
  rw [List.drop_drop, Nat.add_mul, Nat.one_mul]
  rcases Nat.le_total m (pay.drop (i * m)).length with whole | short
  · rw [Nat.min_eq_left whole]
  · rw [Nat.min_eq_right short]
    rw [List.length_drop] at short ⊢
    rw [List.drop_eq_nil_of_le (by omega), List.drop_eq_nil_of_le (by omega), fragmentLoop_nil, fragmentLoop_nil]

/-- One turn of the loop: the link is asked about one fragment. -/
theorem fragmentLoop_turn (hm : 0 < m) (hi : i < pieces m pay) (fuel : Nat) (t : State) :
    fragmentLoop ⟨ifx, tos, id, ttl, proto, src, dst⟩ m (fuel + 1) (i * m) (pay.drop (i * m)) t =
      let u := emitState t (fragment t.par ifx tos id ttl proto src dst m pay i)
      if linkAnswer t then
        fragmentLoop ⟨ifx, tos, id, ttl, proto, src, dst⟩ m fuel ((i + 1) * m) (pay.drop ((i + 1) * m))
          (setR0 u (t.r0 + 1))
      else drop u .txFail := by
  have left : pay.drop (i * m) ≠ [] := by
    have := (lt_pieces_iff hm).mp hi
    rw [Ne, List.drop_eq_nil_iff]
    omega
  rw [fragmentLoop_of_ne_nil _ _ _ _ left]
  dsimp only
  rw [packetOf_eq_fragment hm hi, fragmentLoop_advance]

/-- The loop as far as the link accepts: the first `k` fragments are sent, in order. -/
theorem fragmentLoop_accepted (hm : 0 < m) (s : State) (k : Nat) (rest : List Bool) (hk : k ≤ pieces m pay)
    (script : s.link = List.replicate k true ++ rest) :
    fragmentLoop ⟨ifx, tos, id, ttl, proto, src, dst⟩ m pay.length 0 pay (setR0 s 0) =
      fragmentLoop ⟨ifx, tos, id, ttl, proto, src, dst⟩ m (pay.length - k) (k * m) (pay.drop (k * m))
        (sentFragments (fragment s.par ifx tos id ttl proto src dst m pay) s k rest) := by
  induction k generalizing rest with
  | zero =>
    have start : rest = s.link := script.symm
    rw [start, sentFragments_zero, Nat.zero_mul, List.drop_zero, Nat.sub_zero]
  | succ k ih =>
    have script' : s.link = List.replicate k true ++ true :: rest := by
      rw [script, List.replicate_succ', List.append_assoc, List.singleton_append]
    rw [ih (true :: rest) (Nat.le_of_succ_le hk) script', fuel_left hm hk, fragmentLoop_turn hm hk]
    dsimp only
    rw [linkAnswer_sentFragments, if_pos rfl]
    exact congrArg _ (sentFragments_accepted ..)

/-- Every answer is an acceptance: every fragment is sent. -/
theorem fragmentLoop_all (hm : 0 < m) (s : State) (rest : List Bool)
    (script : s.link = List.replicate (pieces m pay) true ++ rest) :
    fragmentLoop ⟨ifx, tos, id, ttl, proto, src, dst⟩ m pay.length 0 pay (setR0 s 0) =
      done (sentFragments (fragment s.par ifx tos id ttl proto src dst m pay) s (pieces m pay) rest) .ok := by
  have covered : pay.length ≤ pieces m pay * m :=
    Nat.not_lt.mp fun h => Nat.lt_irrefl _ ((lt_pieces_iff hm).mpr h)
  rw [fragmentLoop_accepted hm s _ rest le_rfl script, List.drop_eq_nil_of_le covered, fragmentLoop_nil]

/-- The first refusal ends the loop. -/
theorem fragmentLoop_refused (hm : 0 < m) (s : State) (j : Nat) (rest : List Bool) (hj : j < pieces m pay)
    (script : s.link = List.replicate j true ++ false :: rest) :
    fragmentLoop ⟨ifx, tos, id, ttl, proto, src, dst⟩ m pay.length 0 pay (setR0 s 0) =
      drop (sentFragments (fragment s.par ifx tos id ttl proto src dst m pay) s j rest) .txFail := by
  rw [fragmentLoop_accepted hm s j _ hj.le script, fuel_left hm hj, fragmentLoop_turn hm hj]
  dsimp only
  rw [linkAnswer_sentFragments, if_neg Bool.false_ne_true, sentFragments_refused]

end loop

/-- Settles O37: below 28 bytes the MTU is refused; otherwise the loop sends as many fragments as the link accepts. -/
theorem ipfragCoversPayload : Obligations.IpfragCoversPayload := by
  unfold Obligations.IpfragCoversPayload
  intro s ifx tos id ttl proto src dst pay hi
  dsimp only
  rw [exec_ipfrag hi]
  refine ⟨fun small => congrArg Host.Outcome.next (if_pos small), fun large => ?_⟩
  have hm := maxFragment_pos large
  rw [sendFragments_of_mtu large]
  exact ⟨fun rest script => congrArg Host.Outcome.next (fragmentLoop_all hm s rest script),
    fun j rest hj script => congrArg Host.Outcome.next (fragmentLoop_refused hm s j rest hj script)⟩

end Sys2Proof.Proofs
end

section
/-! The walk over the holes of a slot (42_frag_reassembly.md R190, 10_state.md R41). -/

namespace Sys2Proof.Proofs

open Machine Claims

/-- A position lies in a hole iff it is neither before its begin nor behind its end. -/
theorem inHole_iff {h : Hole} {p : Nat} : inHole h p ↔ h.first ≤ p ∧ h.last.above p = true := by
  obtain ⟨first, last⟩ := h
  cases last <;> simp [inHole, HoleEnd.above]

theorem overlaps_iff {first last : Nat} {h : Hole} :
    overlaps first last h ↔ h.first < last ∧ h.last.above first = true := by
  obtain ⟨start, stop⟩ := h
  cases stop <;> simp [overlaps, HoleEnd.above]

/-- What lies before a number that is before the end of a hole is before that end too. -/
theorem above_mono {e : HoleEnd} {m n : Nat} (hn : e.above n = true) (h : m ≤ n) : e.above m = true := by
  cases e with
  | inf => rfl
  | fin k => exact decide_eq_true (Nat.lt_of_le_of_lt h (of_decide_eq_true hn))

/-- The pieces that a turn of the walk leaves of one hole. -/
theorem mem_splitHole {first last : Nat} {final : Bool} {h x : Hole} :
    x ∈ splitHole first last final h ↔
      (¬ overlaps first last h ∧ x = h) ∨
      (overlaps first last h ∧ h.first < first ∧ x = ⟨h.first, .fin first⟩) ∨
      (overlaps first last h ∧ h.last.above last = true ∧ final = false ∧ x = ⟨last, h.last⟩) := by
  unfold splitHole
  by_cases ho : overlaps first last h
  · rw [if_pos (overlaps_iff.mp ho).symm]
    simp [ho, List.mem_append, and_assoc]
  · rw [if_neg (fun hc => ho (overlaps_iff.mpr hc.symm))]
    simp [ho]

/-- Where a position of one hole is still missing after its turn of the walk. -/
theorem exists_splitHole_iff {first last : Nat} {final : Bool} {h : Hole} {p : Nat} :
    (∃ x ∈ splitHole first last final h, inHole x p) ↔
      inHole h p ∧ (¬ overlaps first last h ∨ p < first ∨ (last ≤ p ∧ final = false)) := by
  simp only [mem_splitHole, inHole_iff]
  constructor
  · rintro ⟨x, ⟨ho, rfl⟩ | ⟨ho, hlt, rfl⟩ | ⟨ho, hab, hf, rfl⟩, hfirst, hlast⟩
    · exact ⟨⟨hfirst, hlast⟩, .inl ho⟩
    · have before : p < first := of_decide_eq_true hlast
      exact ⟨⟨hfirst, above_mono (overlaps_iff.mp ho).2 before.le⟩, .inr (.inl before)⟩
    · exact ⟨⟨(overlaps_iff.mp ho).1.le.trans hfirst, hlast⟩, .inr (.inr ⟨hfirst, hf⟩)⟩
  · rintro ⟨⟨hfirst, hlast⟩, hcase⟩
    by_cases ho : overlaps first last h
    · rcases hcase with hn | before | ⟨behind, hf⟩
      · exact absurd ho hn
      · exact ⟨_, .inr (.inl ⟨ho, by omega, rfl⟩), hfirst, decide_eq_true before⟩
      · exact ⟨_, .inr (.inr ⟨ho, above_mono hlast behind, hf, rfl⟩), behind, hlast⟩
    · exact ⟨h, .inl ⟨ho, rfl⟩, hfirst, hlast⟩

/-- A hole ends at or before another begins (10_state.md R41). -/
def endsBefore (a b : Hole) : Prop := a.last.above b.first = false

theorem holesInOrder_iff {hs : List Hole} :
    holesInOrder hs ↔ (∀ h ∈ hs, h.last.above h.first = true) ∧ hs.Pairwise endsBefore := by
  unfold holesInOrder
  refine and_congr (forall₂_congr fun h _ => ?_) (List.Pairwise.iff fun {a b} => ?_)
  · cases h.last <;> simp [HoleEnd.above]
  · unfold endsBefore
    cases a.last <;> simp [HoleEnd.above]

/-- A piece of a hole begins no earlier than the hole and ends no later. -/
theorem splitHole_inside {first last : Nat} {final : Bool} {h x : Hole} (hx : x ∈ splitHole first last final h) :
    h.first ≤ x.first ∧ ∀ n, x.last.above n = true → h.last.above n = true := by
  rcases mem_splitHole.mp hx with ⟨-, rfl⟩ | ⟨ho, -, rfl⟩ | ⟨ho, -, -, rfl⟩
  · exact ⟨le_rfl, fun _ h => h⟩
  · exact ⟨le_rfl, fun n hn => above_mono (overlaps_iff.mp ho).2 (of_decide_eq_true hn : n < first).le⟩
  · exact ⟨(overlaps_iff.mp ho).1.le, fun _ h => h⟩

/-- Pieces of two holes in order are in order. -/
theorem endsBefore_pieces {first last : Nat} {final : Bool} {a b x y : Hole} (h : endsBefore a b)
    (hx : x ∈ splitHole first last final a) (hy : y ∈ splitHole first last final b) : endsBefore x y := by
  obtain ⟨-, endsInside⟩ := splitHole_inside hx
  obtain ⟨beginsInside, -⟩ := splitHole_inside hy
  refine Bool.eq_false_iff.mpr fun hxy => ?_
  exact Bool.eq_false_iff.mp h (above_mono (endsInside _ hxy) beginsInside)

/-- No piece of a nonempty hole is empty. -/
theorem splitHole_nonempty {first last : Nat} {final : Bool} {h x : Hole} (hn : h.last.above h.first = true)
    (hx : x ∈ splitHole first last final h) : x.last.above x.first = true := by
  rcases mem_splitHole.mp hx with ⟨-, rfl⟩ | ⟨-, hlt, rfl⟩ | ⟨-, hab, -, rfl⟩
  · exact hn
  · exact decide_eq_true hlt
  · exact hab

/-- The two pieces of one hole are in order, the arrived bytes lying between them. -/
theorem splitHole_pairwise {first last : Nat} (final : Bool) (h : Hole) (hle : first ≤ last) :
    (splitHole first last final h).Pairwise endsBefore := by
  have between : endsBefore ⟨h.first, .fin first⟩ ⟨last, h.last⟩ := decide_eq_false (Nat.not_lt.mpr hle)
  unfold splitHole
  split
  · refine List.pairwise_append.mpr ⟨by split <;> simp, by split <;> simp, fun x hx y hy => ?_⟩
    obtain ⟨-, rfl⟩ := List.mem_ite_nil_right.mp hx |>.imp_right List.mem_singleton.mp
    obtain ⟨-, rfl⟩ := List.mem_ite_nil_right.mp hy |>.imp_right List.mem_singleton.mp
    exact between
  · exact List.pairwise_singleton _ _

/-- The walk keeps the order of the holes. -/
theorem splitHoles_inOrder {first last : Nat} {final : Bool} {hs : List Hole} (hle : first ≤ last)
    (h : holesInOrder hs) : holesInOrder (splitHoles first last final hs) := by
  obtain ⟨nonempty, order⟩ := holesInOrder_iff.mp h
  refine holesInOrder_iff.mpr ⟨fun x hx => ?_, List.pairwise_flatMap.mpr ⟨fun a _ => ?_, ?_⟩⟩
  · obtain ⟨a, ha, hxa⟩ := List.mem_flatMap.mp hx
    exact splitHole_nonempty (nonempty a ha) hxa
  · exact splitHole_pairwise final a hle
  · exact order.imp fun hab x hx y hy => endsBefore_pieces hab hx hy

/-- A position is missing after the walk iff one of the holes it lay in still has it. -/
theorem exists_splitHoles_iff {first last : Nat} {final : Bool} {hs : List Hole} {p : Nat} :
    (∃ h ∈ splitHoles first last final hs, inHole h p) ↔
      ∃ h ∈ hs, inHole h p ∧ (¬ overlaps first last h ∨ p < first ∨ (last ≤ p ∧ final = false)) := by
  simp only [← exists_splitHole_iff, splitHoles, List.mem_flatMap]
  constructor
  · rintro ⟨x, ⟨h, hh, hx⟩, hp⟩
    exact ⟨h, hh, x, hx, hp⟩
  · rintro ⟨h, hh, x, hx, hp⟩
    exact ⟨x, ⟨h, hh, hx⟩, hp⟩

/-- Settles O40: each hole by itself, and the pieces of holes in order are in order. -/
theorem holeWalkKeepsMissingBytes : Obligations.HoleWalkKeepsMissingBytes :=
  fun _ _ _ _ hle => ⟨fun _ => exists_splitHoles_iff, splitHoles_inOrder hle⟩

end Sys2Proof.Proofs
end

section
/-! The reassembly engine (42_frag_reassembly.md R185 to R193): REASM. -/

namespace Sys2Proof.Proofs

open Machine Claims

/-! The slot a fragment goes to. -/

theorem keyIs_iff {f : Slot} {d : Bytes} : keyIs f d ↔ f.key = keyOf d := by
  simp [keyIs, Slot.key, keyOf, srcOf, dstOf, protoOf]

/-- The least index of a list that passes a test, its entries read with a default. -/
theorem findIdx?_eq_some_iff_getD {α : Type} {test : α → Bool} {l : List α} {j : Nat} (r : α) :
    l.findIdx? test = some j ↔
      (j < l.length ∧ test (l.getD j r) = true) ∧ ∀ m < j, ¬ (m < l.length ∧ test (l.getD m r) = true) := by
  rw [List.findIdx?_eq_some_iff_getElem]
  constructor
  · rintro ⟨hj, passes, least⟩
    refine ⟨⟨hj, by rwa [List.getD_eq_getElem _ _ hj]⟩, fun m hm ⟨hml, hmt⟩ => least m hm ?_⟩
    rwa [List.getD_eq_getElem _ _ hml] at hmt
  · rintro ⟨⟨hj, passes⟩, least⟩
    rw [List.getD_eq_getElem _ _ hj] at passes
    refine ⟨hj, passes, fun m hm hmt => least m hm ⟨hm.trans hj, ?_⟩⟩
    rwa [List.getD_eq_getElem _ _ (hm.trans hj)]

theorem findIdx?_eq_none_iff_getD {α : Type} {test : α → Bool} {l : List α} (r : α) :
    l.findIdx? test = none ↔ ∀ m, ¬ (m < l.length ∧ test (l.getD m r) = true) := by
  rw [List.findIdx?_eq_none_iff, List.forall_mem_iff_getElem]
  refine forall_congr' fun m => ?_
  rw [not_and]
  refine forall_congr' fun hm => ?_
  rw [List.getD_eq_getElem _ _ hm, Bool.not_eq_true]

/-- The slot of a fragment is the one that step 2 finds or opens (42_frag_reassembly.md R187). -/
theorem locateSlot_of_slotFor {fs : List Slot} {now : Word} {d : Bytes} {j : Nat} {g : Slot}
    (h : slotFor fs now d j g) : locateSlot (keyOf d) now fs = some (j, g) := by
  have used (f : Slot) : (f.inUse && decide (f.key = keyOf d)) = true ↔ f.inUse = true ∧ keyIs f d := by
    rw [keyIs_iff, Bool.and_eq_true, decide_eq_true_eq]
  have idle (f : Slot) : (!f.inUse) = true ↔ f.inUse = false := by rw [Bool.not_eq_true']
  unfold locateSlot
  rcases h with ⟨found, least, rfl⟩ | ⟨none, free, least, rfl⟩
  · simp only [← used] at found least
    rw [(findIdx?_eq_some_iff_getD Slot.reset).mpr ⟨found, least⟩]
  · simp only [← used, ← idle] at none free least
    rw [(findIdx?_eq_none_iff_getD Slot.reset).mpr none, (findIdx?_eq_some_iff_getD Slot.reset).mpr ⟨free, least⟩]
    rfl

theorem locateSlot_full {fs : List Slot} {d : Bytes} (now : Word) (h : ∀ x ∈ fs, x.inUse = true ∧ ¬ keyIs x d) :
    locateSlot (keyOf d) now fs = none := by
  have taken : fs.findIdx? (fun f => f.inUse && decide (f.key = keyOf d)) = none :=
    List.findIdx?_eq_none_iff.mpr fun x hx => by simp [mt keyIs_iff.mpr (h x hx).2]
  have noneFree : fs.findIdx? (fun f => !f.inUse) = none :=
    List.findIdx?_eq_none_iff.mpr fun x hx => by simp [(h x hx).1]
  unfold locateSlot
  rw [taken, noneFree]

/-! The merge. -/

theorem captureHeader_eq (d : Bytes) (f : Slot) :
    captureHeader d f = { f with
      hlen := if dataFirst d = 0 then BitVec.ofNat 8 (headerLen d) else f.hlen
      hdr := if dataFirst d = 0 then d.take (headerLen d) else f.hdr } := by
  unfold captureHeader
  split <;> rfl

theorem growSlot_eq (d : Bytes) (f : Slot) :
    growSlot d f = { f with
      dataLen := max f.dataLen (dataLast d)
      data := f.data ++ List.replicate (dataLast d - f.dataLen) 0#8 } := by
  unfold growSlot
  split
  · rename_i longer
    rw [Nat.max_eq_right longer.le]
  · rename_i shorter
    rw [Nat.max_eq_left (Nat.not_lt.mp shorter), Nat.sub_eq_zero_of_le (Nat.not_lt.mp shorter), List.replicate_zero,
      List.append_nil]

/-- What fits is written whole. -/
theorem overwrite_of_fits {b new : Bytes} {i : Nat} (h : i + new.length ≤ b.length) :
    overwrite b i new = b.take i ++ new ++ b.drop (i + new.length) := by
  rw [overwrite, List.take_of_length_le (l := new) (by omega)]

theorem length_payloadOf (d : Bytes) : (payloadOf d).length = fragLen d := List.length_drop

/-- Steps 3 to 6 merge a fragment into a slot (42_frag_reassembly.md R188 to R191). -/
theorem merge_eq_mergedInto {d : Bytes} {g : Slot} (h : g.data.length = g.dataLen) :
    mergeSlot d (growSlot d (captureHeader d g)) = mergedInto d g := by
  have fits : dataFirst d + (payloadOf d).length ≤
      (g.data ++ List.replicate (dataLast d - g.dataLen) (0#8 : Byte)).length := by
    rw [length_payloadOf, List.length_append, List.length_replicate, h]
    show dataLast d ≤ _
    omega
  rw [captureHeader_eq, growSlot_eq]
  unfold mergeSlot
  dsimp only
  rw [overwrite_of_fits fits, length_payloadOf]
  rfl

theorem length_mergedInto_data {d : Bytes} {g : Slot} (h : g.data.length = g.dataLen) :
    (mergedInto d g).data.length = (mergedInto d g).dataLen := by
  have grown : (growSlot d (captureHeader d g)).data.length = (growSlot d (captureHeader d g)).dataLen := by
    rw [captureHeader_eq, growSlot_eq]
    simp only [List.length_append, List.length_replicate, h]
    omega
  rw [← merge_eq_mergedInto h]
  exact (overwrite_length ..).trans grown

/-- Overwriting behind the first part of a list leaves that part. -/
theorem overwrite_append {x y new : Bytes} {k j : Nat} (hk : k = x.length + j) :
    overwrite (x ++ y) k new = x ++ overwrite y j new := by
  subst hk
  rw [overwrite, List.take_length_add_append, List.length_append, Nat.add_sub_add_left, Nat.add_assoc,
    List.drop_length_add_append, overwrite, List.append_assoc, List.append_assoc, List.append_assoc]

/-- The three fields of a header that step 7 writes (42_frag_reassembly.md R192). -/
theorem overwrite_header_fields {b : Bytes} (h : 12 ≤ b.length) (len : Half) :
    overwrite (overwrite (overwrite b 2 (enc16 len)) 6 (enc16 0)) 10 (enc16 0) =
      b.take 2 ++ enc16 len ++ (b.drop 4).take 2 ++ enc16 0 ++ (b.drop 8).take 2 ++ enc16 0 ++ b.drop 12 := by
  have two (v : Half) : (enc16 v).length = 2 := rfl
  have total : overwrite b 2 (enc16 len) = (b.take 2 ++ enc16 len) ++ b.drop 4 := by
    rw [overwrite_enc16 (by omega), List.append_assoc]
  have offset : overwrite (b.drop 4) 2 (enc16 0) = ((b.drop 4).take 2 ++ enc16 0) ++ b.drop 8 := by
    rw [overwrite_enc16 (by rw [List.length_drop]; omega), List.append_assoc, List.drop_drop]
  have sum : overwrite (b.drop 8) 2 (enc16 0) = ((b.drop 8).take 2 ++ enc16 0) ++ b.drop 12 := by
    rw [overwrite_enc16 (by rw [List.length_drop]; omega), List.append_assoc, List.drop_drop]
  rw [total, overwrite_append (j := 2) (by simp [two]; omega), offset, ← List.append_assoc,
    overwrite_append (j := 2) (by simp [two]; omega), sum]
  simp only [List.append_assoc]

/-- The completed datagram, field by field (42_frag_reassembly.md R192). -/
theorem completed_eq_wholeDatagram {g : Slot} (hd : g.data.length = g.dataLen) (hh : 20 ≤ g.hdr.length) :
    completed g = wholeDatagram g := by
  unfold completed
  rw [← hd, List.take_length, overwrite_header_fields (by omega), hd]
  rfl

/-! REASM. -/

section reasm
variable {ifx : Byte} {d : Bytes} {s : State} {j : Nat} {g : Slot}

theorem reassemble_badLen (hm : moreFragments d = true) (hn : fragLen d % 8 ≠ 0) :
    reassemble ifx d s = drop s .reasmBadLen :=
  if_pos ⟨hm, hn⟩

theorem reassemble_noSlot (hd : ¬ (moreFragments d = true ∧ fragLen d % 8 ≠ 0))
    (hs : ∀ x ∈ (s.iface ifx.toNat).frag, x.inUse = true ∧ ¬ keyIs x d) :
    reassemble ifx d s = drop s .reasmNoSlot := by
  unfold reassemble
  rw [if_neg hd, locateSlot_full _ hs]

/-- A fragment past the size limit releases its slot (42_frag_reassembly.md R189). -/
theorem reassemble_tooBig (hd : ¬ (moreFragments d = true ∧ fragLen d % 8 ≠ 0))
    (hs : slotFor (s.iface ifx.toNat).frag s.now d j g) (hb : s.par.reasmMaxPayload < dataLast d) :
    reassemble ifx d s = drop (releaseSlot s ifx.toNat j) .reasmTooBig := by
  unfold reassemble
  rw [if_neg hd, locateSlot_of_slotFor hs]
  exact if_pos hb

/-- A fragment within the limit is merged, and completes its datagram iff no hole is left (42_frag_reassembly.md R190
to R193). -/
theorem reassemble_merged (hd : ¬ (moreFragments d = true ∧ fragLen d % 8 ≠ 0))
    (hs : slotFor (s.iface ifx.toNat).frag s.now d j g) (hb : dataLast d ≤ s.par.reasmMaxPayload)
    (hg : g.data.length = g.dataLen) :
    reassemble ifx d s =
      let t := setSlot s ifx.toNat j (mergedInto d g)
      if (mergedInto d g).holes ≠ [] then done t .reasmPending
      else releaseSlot (demux ifx (completed (mergedInto d g)) t) ifx.toNat j := by
  unfold reassemble
  rw [if_neg hd, locateSlot_of_slotFor hs, ← merge_eq_mergedInto hg]
  exact if_neg (Nat.not_lt.mpr hb)

end reasm

/-- Settles O39: the length test, the slot, the size limit and the holes left select one of the five ends. -/
theorem reasmMergesOrCompletes : Obligations.ReasmMergesOrCompletes := by
  unfold Obligations.ReasmMergesOrCompletes
  intro s ifx d hi
  dsimp only
  rw [exec_reasm hi]
  refine ⟨fun hm hn => congrArg Host.Outcome.next (reassemble_badLen hm hn), fun hlen => ?_⟩
  have hd : ¬ (moreFragments d = true ∧ fragLen d % 8 ≠ 0) := by
    rintro ⟨hm, hn⟩
    rcases hlen with final | whole
    · exact Bool.noConfusion (final.symm.trans hm)
    · exact hn whole
  refine ⟨fun full => congrArg Host.Outcome.next (reassemble_noSlot hd full), fun j g hs =>
    ⟨fun hb => congrArg Host.Outcome.next (reassemble_tooBig hd hs hb), fun hb hg _ => ?_⟩⟩
  rw [reassemble_merged hd hs hb hg]
  refine ⟨fun left => congrArg Host.Outcome.next (if_pos left), fun complete hh => ?_⟩
  refine ⟨_, exec_ipdemux (s := setSlot s ifx.toNat j (mergedInto d g)) hi _, congrArg Host.Outcome.next ?_⟩
  rw [← completed_eq_wholeDatagram (length_mergedInto_data hg) hh]
  exact if_neg (not_not.mpr complete)

end Sys2Proof.Proofs
end

section
/-! Reassembly as a whole (42_frag_reassembly.md R194): what a slot holds once fragments of one payload are merged. -/

namespace Sys2Proof.Proofs

open Machine Claims

/-- A fragment brings the byte at position `x`. -/
def brings (d : Bytes) (x : Nat) : Prop := dataFirst d ≤ x ∧ x < dataLast d

/-- The slot `g` holds what the fragments `ds` of the payload `p` have brought, `h` being the header of fragment
zero. -/
structure Holds (h p : Bytes) (ds : List Bytes) (g : Slot) : Prop where
  lengths : g.data.length = g.dataLen
  bounded : g.dataLen ≤ p.length
  bytes : ∀ x < p.length, (∃ d ∈ ds, brings d x) → g.data[x]? = p[x]?
  header : (∃ d ∈ ds, brings d 0) → g.hdr = h
  inOrder : holesInOrder g.holes
  below : ∀ k ∈ g.holes, k.first < p.length
  missing : ∀ x < p.length, (∃ k ∈ g.holes, inHole k x) ↔ ¬ ∃ d ∈ ds, brings d x

/-- A byte of a list with a part replaced: of the new part where it lies, of the list elsewhere. -/
theorem getElem?_replaced {l new : Bytes} {i j x : Nat} (hj : j = i + new.length) (h : j ≤ l.length) :
    (l.take i ++ new ++ l.drop j)[x]? = if i ≤ x ∧ x < j then new[x - i]? else l[x]? := by
  have front : (l.take i).length = i := List.length_take_of_le (by omega)
  have upTo : (l.take i ++ new).length = j := by rw [List.length_append, front, hj]
  rcases Nat.lt_or_ge x i with before | after
  · rw [if_neg (by omega), List.getElem?_append_left (by omega), List.getElem?_append_left (by omega),
      List.getElem?_take_of_lt before]
  · rcases Nat.lt_or_ge x j with inside | behind
    · rw [if_pos ⟨after, inside⟩, List.getElem?_append_left (by omega), List.getElem?_append_right (by omega), front]
    · rw [if_neg (by omega), List.getElem?_append_right (by omega), upTo, List.getElem?_drop,
        Nat.add_sub_cancel' behind]

theorem exists_brings_append {ds : List Bytes} {d : Bytes} {x : Nat} :
    (∃ e ∈ ds ++ [d], brings e x) ↔ (∃ e ∈ ds, brings e x) ∨ brings d x := by
  simp [or_and_right, exists_or]

theorem holds_opened (key : FragKey) (now : Word) {h p : Bytes} (hp : p ≠ []) :
    Holds h p [] (openedSlot key now) where
  lengths := rfl
  bounded := Nat.zero_le _
  bytes _ _ hx := by simp at hx
  header hx := by simp at hx
  inOrder := holesInOrder_iff.mpr ⟨by simp [openedSlot, HoleEnd.above], List.pairwise_singleton _ _⟩
  below k hk := by
    rw [List.mem_singleton.mp hk]
    exact List.length_pos_iff.mpr hp
  missing x _ := by simp [openedSlot, inHole_iff, HoleEnd.above]

section merge
variable {h p d : Bytes} {g : Slot} (hd : fragmentOf h p d)
include hd

/-- A fragment that is not followed by more reaches the end of the payload. -/
theorem more_or_last : moreFragments d = true ∨ dataLast d = p.length := by
  obtain ⟨-, -, hle, -, more, -⟩ := hd
  rcases hle.lt_or_eq with short | reaches
  · exact .inl (more.mpr short)
  · exact .inr reaches

/-- The bytes of a slot after the merge: those the fragment brings are the payload's, the others stay. -/
theorem getElem?_mergedInto (hg : g.data.length = g.dataLen) (x : Nat) (hx : brings d x ∨ x < g.dataLen) :
    (mergedInto d g).data[x]? = if dataFirst d ≤ x ∧ x < dataLast d then p[x]? else g.data[x]? := by
  obtain ⟨-, -, hle, hpay, -, -⟩ := hd
  refine (getElem?_replaced (length_payloadOf d ▸ rfl) ?_).trans ?_
  · rw [List.length_append, List.length_replicate, hg]
    omega
  · split
    · rw [hpay, List.getElem?_drop, List.getElem?_take_of_lt (by omega), Nat.add_sub_cancel' (by omega)]
    · rename_i elsewhere
      exact List.getElem?_append_left (hg.symm ▸ hx.resolve_left elsewhere)

/-- A position of a hole stays missing iff the fragment does not bring it. -/
theorem missing_of_fragment {k : Hole} {x : Nat} (hx : x < p.length) (hk : inHole k x) :
    (¬ overlaps (dataFirst d) (dataLast d) k ∨ x < dataFirst d ∨ (dataLast d ≤ x ∧ (!moreFragments d) = false)) ↔
      ¬ brings d x := by
  obtain ⟨begun, notEnded⟩ := inHole_iff.mp hk
  constructor
  · rintro (apart | before | ⟨behind, -⟩) ⟨after, within⟩
    · exact apart (overlaps_iff.mpr ⟨begun.trans_lt within, above_mono notEnded after⟩)
    · exact absurd after (Nat.not_le.mpr before)
    · exact absurd within (Nat.not_lt.mpr behind)
  · intro apart
    rcases Nat.lt_or_ge x (dataFirst d) with before | after
    · exact .inr (.inl before)
    · have behind : dataLast d ≤ x := Nat.not_lt.mp fun within => apart ⟨after, within⟩
      rcases more_or_last hd with more | last
      · exact .inr (.inr ⟨behind, by rw [more]; rfl⟩)
      · omega

theorem holds_merged {ds : List Bytes} (hg : Holds h p ds g) : Holds h p (ds ++ [d]) (mergedInto d g) := by
  obtain ⟨-, nonempty, hle, -, more, hzero⟩ := id hd
  refine ⟨length_mergedInto_data hg.lengths, max_le hg.bounded hle, fun x hx brought => ?_, fun brought => ?_,
    splitHoles_inOrder nonempty.le hg.inOrder, fun k hk => ?_, fun x hx => ?_⟩
  · by_cases new : brings d x
    · exact (getElem?_mergedInto hd hg.lengths x (.inl new)).trans (if_pos new)
    · have old := hg.bytes x hx ((exists_brings_append.mp brought).resolve_right new)
      have reached : x < g.data.length := by
        rw [List.getElem?_eq_getElem hx] at old
        exact (List.getElem?_eq_some_iff.mp old).1
      exact (getElem?_mergedInto hd hg.lengths x (.inr (hg.lengths ▸ reached))).trans ((if_neg new).trans old)
  · by_cases zero : dataFirst d = 0
    · exact (if_pos zero).trans (hzero zero)
    · have new : ¬ brings d 0 := fun hb => zero (Nat.le_zero.mp hb.1)
      exact (if_neg zero).trans (hg.header ((exists_brings_append.mp brought).resolve_right new))
  · obtain ⟨a, ha, hka⟩ := List.mem_flatMap.mp hk
    rcases mem_splitHole.mp hka with ⟨-, rfl⟩ | ⟨-, -, rfl⟩ | ⟨-, -, notFinal, rfl⟩
    · exact hg.below k ha
    · exact hg.below a ha
    · exact more.mp (by simpa using notFinal)
  · rw [exists_brings_append, not_or, ← hg.missing x hx]
    refine exists_splitHoles_iff.trans ?_
    constructor
    · rintro ⟨k, hk, hin, still⟩
      exact ⟨⟨k, hk, hin⟩, (missing_of_fragment hd hx hin).mp still⟩
    · rintro ⟨⟨k, hk, hin⟩, apart⟩
      exact ⟨k, hk, hin, (missing_of_fragment hd hx hin).mpr apart⟩

end merge

/-- Any fragments of one payload, merged in any order into a slot just opened. -/
theorem holds_fold (key : FragKey) (now : Word) {h p : Bytes} (hp : p ≠ []) (ds : List Bytes)
    (hds : ∀ d ∈ ds, fragmentOf h p d) :
    Holds h p ds (ds.foldl (fun g d => mergeSlot d (growSlot d (captureHeader d g))) (openedSlot key now)) := by
  induction ds using List.reverseRecOn with
  | nil => exact holds_opened key now hp
  | append_singleton ds d ih =>
    have before := ih fun e he => hds e (List.mem_append_left _ he)
    rw [List.foldl_append, List.foldl_cons, List.foldl_nil, merge_eq_mergedInto before.lengths]
    exact holds_merged (hds d (by simp)) before

section complete
variable {h p : Bytes} {ds : List Bytes} {g : Slot} (hg : Holds h p ds g)
include hg

/-- No hole is left iff no byte is missing: a hole holds its first position, and that is a position of the payload. -/
theorem Holds.complete_iff : g.holes = [] ↔ ∀ x < p.length, ∃ d ∈ ds, brings d x := by
  constructor
  · intro none x hx
    refine not_not.mp fun unbrought => ?_
    obtain ⟨k, hk, -⟩ := (hg.missing x hx).mpr unbrought
    exact List.not_mem_nil (none ▸ hk)
  · refine fun all => List.eq_nil_iff_forall_not_mem.mpr fun k hk => ?_
    have nonempty := (holesInOrder_iff.mp hg.inOrder).1 k hk
    exact (hg.missing k.first (hg.below k hk)).mp ⟨k, hk, inHole_iff.mpr ⟨le_rfl, nonempty⟩⟩
      (all k.first (hg.below k hk))

theorem Holds.data_eq (all : ∀ x < p.length, ∃ d ∈ ds, brings d x) : g.data = p := by
  refine List.ext_getElem? fun x => ?_
  rcases Nat.lt_or_ge x p.length with inside | outside
  · exact hg.bytes x inside (all x inside)
  · have short : g.data.length ≤ x := hg.lengths ▸ hg.bounded.trans outside
    rw [List.getElem?_eq_none short, List.getElem?_eq_none outside]

end complete

/-- Settles O41: merging keeps `Holds`, and a slot without a hole then holds every byte. -/
theorem reassemblyInAnyOrderRestoresPayload : Obligations.ReassemblyInAnyOrderRestoresPayload := by
  unfold Obligations.ReassemblyInAnyOrderRestoresPayload
  intro key now h p ds hp hds
  have hg := holds_fold key now hp ds hds
  refine ⟨hg.complete_iff, fun complete => ?_⟩
  have all := hg.complete_iff.mp complete
  have whole := hg.data_eq all
  exact ⟨whole, hg.lengths.symm.trans (congrArg _ whole), hg.header (all 0 (List.length_pos_iff.mpr hp))⟩

end Sys2Proof.Proofs
end

section
/-! The timeout sweep (42_frag_reassembly.md R200, R201): FRAGTICK. -/

namespace Sys2Proof.Proofs

open Machine Claims

/-- A command that holds the lock and has an illegal operand is refused (45_host_ops.md R282). -/
theorem runCommand_illegal {s : State} {l : Bool} (hl : l = true → s.lock = .held s.tid) (rs : List (Fin 8))
    (b : State → State) : runCommand s l rs false b = refused s .badOperand := by
  unfold runCommand
  rw [if_neg fun h => h.2 (hl h.1), if_pos rfl]
  exact ite_self _

/-- A slot after the sweep has passed it. -/
def afterSweep (p : Params) (now : Word) (x : Slot) : Slot := if tooOld p now x then Slot.reset else x

/-- The reports for the evicted ones among the slots `l`. -/
def timeoutReports (s : State) (ifx : Byte) (l : List Slot) : List IcmpEntry :=
  ((l.filter (tooOld s.par s.now)).filter fun x => decide (x.hlen ≠ 0)).map fun x => ⟨ifx, 11, 1, 0, partialOf x⟩

/-- How many of the slots `l` are evicted. -/
def evictions (s : State) (l : List Slot) : Word := BitVec.ofNat 32 (l.filter (tooOld s.par s.now)).length

/-- The state when the sweep has passed the slots `l` of an interface and not yet the slots `r`. -/
def sweptTo (s : State) (ifx : Byte) (l r : List Slot) : State :=
  { s with
    ifs := s.ifs.set ifx.toNat { s.iface ifx.toNat with frag := l.map (afterSweep s.par s.now) ++ r }
    icmpq := s.icmpq ++ timeoutReports s ifx l
    cnt := s.cnt.set 0x24 (s.cnt[0x24] + evictions s l)
    r0 := evictions s l }

/-- What a slot with a hole gives the report: its header and the bytes before its first hole. -/
theorem partialDatagram_eq_partialOf {x : Slot} (h : x.holes ≠ []) : partialDatagram x = partialOf x := by
  unfold partialDatagram partialOf firstMissing
  split
  · rename_i holes
    rw [holes, List.headD_cons]
  · contradiction

theorem iface_set_self (s : State) (i : Nat) : s.ifs.set i (s.iface i) = s.ifs := by
  refine List.ext_getElem (List.length_set ..) fun n hn hn' => ?_
  rw [List.getElem_set]
  split
  · rename_i here
    subst here
    exact List.getD_eq_getElem _ _ hn'
  · rfl

section sweep
variable {s : State} {ifx : Byte} {l r : List Slot} {x : Slot}

/-- Before the first slot nothing has changed but `R0`. -/
theorem sweptTo_nil : sweptTo s ifx [] (s.iface ifx.toNat).frag = setR0 s 0 := by
  have table : s.ifs.set ifx.toNat { s.iface ifx.toNat with frag := [].map (afterSweep s.par s.now) ++
      (s.iface ifx.toNat).frag } = s.ifs := iface_set_self s ifx.toNat
  have counter : s.cnt.set 0x24 (s.cnt[0x24] + evictions s []) = s.cnt := by
    have none : evictions s [] = 0#32 := rfl
    rw [none, BitVec.add_zero, Vector.set_getElem_self]
  unfold sweptTo
  rw [table, counter, show timeoutReports s ifx [] = [] from rfl, List.append_nil]
  rfl

theorem iface_sweptTo : (sweptTo s ifx l r).iface ifx.toNat =
    if ifx.toNat < s.ifs.length then
      { s.iface ifx.toNat with frag := l.map (afterSweep s.par s.now) ++ r }
    else s.iface ifx.toNat := by
  refine (iface_setIface s ifx.toNat ifx.toNat _).trans ?_
  simp only [true_and]

/-- The sweep finds each slot as it was. -/
theorem slot_sweptTo (h : (s.iface ifx.toNat).frag = l ++ x :: r) :
    (sweptTo s ifx l (x :: r)).slot ifx.toNat l.length = x := by
  unfold State.slot
  rw [iface_sweptTo]
  split
  · simp
  · simp [h]

theorem sweptTo_young (h : tooOld s.par s.now x = false) :
    sweptTo s ifx (l ++ [x]) r = sweptTo s ifx l (x :: r) := by
  simp [sweptTo, timeoutReports, evictions, afterSweep, h]

theorem timeoutReports_old (old : tooOld s.par s.now x = true) :
    timeoutReports s ifx (l ++ [x]) =
      timeoutReports s ifx l ++ if x.hlen ≠ 0 then [⟨ifx, 11, 1, 0, partialOf x⟩] else [] := by
  by_cases zero : x.hlen = 0#8 <;> simp [timeoutReports, old, zero]

theorem evictions_old (old : tooOld s.par s.now x = true) : evictions s (l ++ [x]) = evictions s l + 1 := by
  simp [evictions, old, BitVec.ofNat_add]

/-- The table after the eviction of the next slot. -/
theorem releaseSlot_sweptTo_ifs (old : tooOld s.par s.now x = true) :
    (releaseSlot (sweptTo s ifx l (x :: r)) ifx.toNat l.length).ifs = (sweptTo s ifx (l ++ [x]) r).ifs := by
  rw [releaseSlot_ifs, iface_sweptTo]
  unfold sweptTo
  split
  · simp [afterSweep, old]
  · rename_i past
    have past' : s.ifs.length ≤ ifx.toNat := Nat.not_lt.mp past
    simp [List.set_eq_of_length_le past']

theorem count_sweptTo_cnt (old : tooOld s.par s.now x = true) :
    (count (sweptTo s ifx l (x :: r)) .reasmTimeout).cnt = (sweptTo s ifx (l ++ [x]) r).cnt := by
  have same (cnt : Vector Word 256) (v : Word) : (cnt.set 0x24 (cnt[0x24] + v)).set 0x24
      ((cnt.set 0x24 (cnt[0x24] + v))[0x24] + 1) = cnt.set 0x24 (cnt[0x24] + (v + 1)) := by
    rw [Vector.set_set, Vector.getElem_set_self, BitVec.add_assoc]
  unfold sweptTo
  rw [evictions_old old]
  exact same ..

/-- An eviction field by field: the report if fragment zero had come, the counter, the slot (42_frag_reassembly.md
R200, R201). -/
theorem evict_eq (t : State) (i j : Nat) :
    evict i j t = { t with
      ifs := (releaseSlot t i j).ifs
      icmpq := t.icmpq ++ if (t.slot i j).hlen ≠ 0 then
        [⟨BitVec.ofNat 8 i, 11, 1, 0, partialDatagram (t.slot i j)⟩] else []
      cnt := (count t .reasmTimeout).cnt } := by
  unfold evict
  dsimp only
  split
  · rfl
  · rw [List.append_nil]
    rfl

/-- The eviction of the next slot. -/
theorem evict_sweptTo (h : (s.iface ifx.toNat).frag = l ++ x :: r) (old : tooOld s.par s.now x = true)
    (hx : x.holes ≠ []) :
    setR0 (evict ifx.toNat l.length (sweptTo s ifx l (x :: r))) ((sweptTo s ifx l (x :: r)).r0 + 1) =
      sweptTo s ifx (l ++ [x]) r := by
  have results : (sweptTo s ifx l (x :: r)).r0 + 1 = (sweptTo s ifx (l ++ [x]) r).r0 := (evictions_old old).symm
  have reports : (sweptTo s ifx l (x :: r)).icmpq ++ (if x.hlen ≠ 0 then [⟨ifx, 11, 1, 0, partialOf x⟩] else []) =
      (sweptTo s ifx (l ++ [x]) r).icmpq :=
    (List.append_assoc ..).trans (congrArg _ (timeoutReports_old old).symm)
  rw [evict_eq, slot_sweptTo h, partialDatagram_eq_partialOf hx, BitVec.ofNat_toNat, BitVec.setWidth_eq, reports,
    releaseSlot_sweptTo_ifs old, count_sweptTo_cnt old, results]
  rfl

/-- One turn of the sweep. -/
theorem sweepSlots_turn (h : (s.iface ifx.toNat).frag = l ++ x :: r) (hx : x.inUse = true → x.holes ≠ []) (n : Nat) :
    sweepSlots ifx.toNat (n + 1) l.length (sweptTo s ifx l (x :: r)) =
      sweepSlots ifx.toNat n (l ++ [x]).length (sweptTo s ifx (l ++ [x]) r) := by
  rw [sweepSlots, slot_sweptTo h, List.length_append]
  refine congrArg _ ?_
  by_cases old : tooOld s.par s.now x = true
  · have inUse : x.inUse = true := (Bool.and_eq_true_iff.mp old).1
    exact (if_pos old).trans (evict_sweptTo h old (hx inUse))
  · exact (if_neg old).trans (sweptTo_young (Bool.eq_false_iff.mpr old)).symm

theorem sweepSlots_sweptTo (h : (s.iface ifx.toNat).frag = l ++ r) (hx : ∀ x ∈ r, x.inUse = true → x.holes ≠ []) :
    sweepSlots ifx.toNat r.length l.length (sweptTo s ifx l r) = sweptTo s ifx (l ++ r) [] := by
  induction r generalizing l with
  | nil => rw [List.append_nil]; rfl
  | cons x r ih =>
    have whole : l ++ [x] ++ r = l ++ x :: r := by rw [List.append_assoc, List.singleton_append]
    rw [List.length_cons, sweepSlots_turn h (hx x List.mem_cons_self),
      ih (h.trans whole.symm) fun y hy => hx y (List.mem_cons_of_mem x hy), whole]

/-- The whole sweep of one interface. -/
theorem fragTick_eq (hn : (s.iface ifx.toNat).frag.length = s.par.nFrag)
    (hx : ∀ x ∈ (s.iface ifx.toNat).frag, x.inUse = true → x.holes ≠ []) :
    fragTick ifx.toNat (setR0 s 0) = done (sweptTo s ifx (s.iface ifx.toNat).frag []) .ok := by
  have whole := sweepSlots_sweptTo (l := []) rfl hx
  rw [sweptTo_nil, hn] at whole
  exact congrArg (done · .ok) whole

end sweep

/-- Settles O31: the sweep passes the slots in order, and each is evicted or left. -/
theorem fragtickEvictsOldSlots : Obligations.FragtickEvictsOldSlots := by
  unfold Obligations.FragtickEvictsOldSlots
  intro s ifx hl
  refine ⟨fun hi => congrArg Host.Outcome.next ?_, fun hi hn hx => congrArg Host.Outcome.next ?_⟩
  · have missing : s.hasIface ifx = false := decide_eq_false (Nat.not_lt.mpr hi)
    rw [missing]
    exact runCommand_illegal (fun _ => hl) _ _
  · rw [runCommand_runs s _ _ _ _ (fun _ => hl) rfl (hasIface_of_lt hi), fragTick_eq hn hx]
    unfold sweptTo
    rw [List.append_nil]
    rfl

end Sys2Proof.Proofs
end

section
/-! The socket lookup (43_socket_lookup.md R210 to R214): LOOKUPT, LOOKUPU. -/

namespace Sys2Proof.Proofs

open Machine Claims

/-! The tests of a record. -/

theorem filterAdmits_iff {f : IpAddr} {a : Word} :
    filterAdmits f a = true ↔ f = .unspec ∨ f = .v4 0 ∨ f = .v4 a := by
  cases f <;> simp [filterAdmits, isUnspec, addrEq]

theorem endpointMatches_iff {k : Sock} {ifx : Byte} {src dst : Word} {dstPort : Half} :
    endpointMatches k ifx src dst dstPort = true ↔ endpointFits k ifx src dst dstPort := by
  simp only [endpointMatches, Bool.and_eq_true, Bool.or_eq_true, decide_eq_true_eq, filterAdmits_iff, and_assoc]
  exact Iff.rfl

theorem candidateT_iff {k : Sock} {ifx : Byte} {src dst : Word} {dstPort : Half} :
    candidateT k ifx src dst dstPort = true ↔ tcpCandidate k ifx src dst dstPort := by
  simp only [candidateT, tcpCandidate, Bool.and_eq_true, decide_eq_true_eq, endpointMatches_iff]

theorem candidateU_iff {k : Sock} {ifx : Byte} {src dst : Word} {srcPort dstPort : Half} :
    candidateU k ifx src dst srcPort dstPort = true ↔
      k.type = .datagram ∧ endpointFits k ifx src dst dstPort ∧ (k.remotePort = 0 ∨ k.remotePort = srcPort) := by
  simp only [candidateU, Bool.and_eq_true, Bool.or_eq_true, decide_eq_true_eq, endpointMatches_iff, and_assoc]

/-- A TCP candidate with the remote port of the packet (43_socket_lookup.md R210). -/
def exactT (ifx : Byte) (src dst : Word) (srcPort dstPort : Half) (k : Sock) : Bool :=
  candidateT k ifx src dst dstPort && decide (k.remotePort = srcPort)

/-- A TCP candidate that listens (43_socket_lookup.md R212). -/
def passiveT (ifx : Byte) (src dst : Word) (dstPort : Half) (k : Sock) : Bool :=
  candidateT k ifx src dst dstPort && decide (k.state = .listen)

theorem exactT_iff {k : Sock} {ifx : Byte} {src dst : Word} {srcPort dstPort : Half} :
    exactT ifx src dst srcPort dstPort k = true ↔
      tcpCandidate k ifx src dst dstPort ∧ k.remotePort = srcPort := by
  rw [exactT, Bool.and_eq_true, candidateT_iff, decide_eq_true_eq]

theorem passiveT_iff {k : Sock} {ifx : Byte} {src dst : Word} {dstPort : Half} :
    passiveT ifx src dst dstPort k = true ↔ tcpCandidate k ifx src dst dstPort ∧ k.state = .listen := by
  rw [passiveT, Bool.and_eq_true, candidateT_iff, decide_eq_true_eq]

/-! The first record that passes a test. -/

section firstMatch
variable {s : State} {p : Sock → Bool}

theorem sock_of_lt {m : Nat} (h : m < s.socks.length) : s.sock m = s.socks[m] :=
  List.getD_eq_getElem _ _ h

theorem findIdx_socks_eq_some_iff {n : Nat} :
    s.socks.findIdx? p = some n ↔
      (n < s.socks.length ∧ p (s.sock n) = true) ∧ ∀ m < n, ¬ (m < s.socks.length ∧ p (s.sock m) = true) := by
  rw [List.findIdx?_eq_some_iff_getElem]
  constructor
  · rintro ⟨hn, hp, earlier⟩
    refine ⟨⟨hn, by rwa [sock_of_lt hn]⟩, fun m hm ⟨hl, h⟩ => earlier m hm ?_⟩
    rwa [sock_of_lt hl] at h
  · rintro ⟨⟨hn, hp⟩, earlier⟩
    refine ⟨hn, by rwa [← sock_of_lt hn], fun m hm h => earlier m hm ⟨hm.trans hn, ?_⟩⟩
    rwa [sock_of_lt (hm.trans hn)]

theorem findIdx_socks_eq_none_iff :
    s.socks.findIdx? p = none ↔ ∀ m, ¬ (m < s.socks.length ∧ p (s.sock m) = true) := by
  rw [List.findIdx?_eq_none_iff, List.forall_mem_iff_forall_getElem]
  refine forall_congr' fun m => ?_
  rw [not_and, Bool.not_eq_true]
  exact forall_congr' fun h => by rw [sock_of_lt h]

end firstMatch

/-! The two scans. -/

section scans
variable {s : State} {ifx : Byte} {src dst : Word} {srcPort dstPort : Half}

/-- The scan from index `i` on answers the first exact match, else the fallback it was given, else the first
listener. -/
theorem scanT_eq_findIdx (l : List Sock) (i : Nat) (fallback : Option Nat) :
    scanT ifx src dst srcPort dstPort l i fallback =
      ((l.findIdx? (exactT ifx src dst srcPort dstPort)).map (· + i)).or
        (fallback.or ((l.findIdx? (passiveT ifx src dst dstPort)).map (· + i))) := by
  induction l generalizing i fallback with
  | nil => simp [scanT]
  | cons k rest ih =>
    have shift (o : Option Nat) : (o.map (· + 1)).map (· + i) = o.map (· + (i + 1)) := by
      rw [Option.map_map]
      exact congrArg (o.map ·) (funext fun n => by simp only [Function.comp_apply]; omega)
    rw [scanT, List.findIdx?_cons, List.findIdx?_cons, exactT, passiveT]
    by_cases candidate : candidateT k ifx src dst dstPort = true
    case neg => simp [candidate, ih, shift]
    by_cases port : k.remotePort = srcPort
    case pos => simp [candidate, port]
    by_cases listens : k.state = .listen
    case neg => simp [candidate, port, listens, ih, shift]
    cases fallback <;> simp [candidate, port, listens, ih, shift]

theorem findTcp_eq_findIdx :
    findTcp s ifx src dst srcPort dstPort =
      (s.socks.findIdx? (exactT ifx src dst srcPort dstPort)).or
        (s.socks.findIdx? (passiveT ifx src dst dstPort)) := by
  rw [findTcp, scanT_eq_findIdx, Option.none_or]
  exact congrArg₂ Option.or Option.map_id' Option.map_id'

/-- The TCP scan finds exactly the match. -/
theorem findTcp_eq_some_iff {n : Nat} :
    findTcp s ifx src dst srcPort dstPort = some n ↔ tcpMatch s ifx src dst srcPort dstPort n := by
  rw [findTcp_eq_findIdx, Option.or_eq_some_iff, findIdx_socks_eq_some_iff, findIdx_socks_eq_none_iff,
    findIdx_socks_eq_some_iff]
  simp only [exactT_iff, passiveT_iff, tcpMatch, and_assoc]

/-- The UDP scan finds exactly the match. -/
theorem findUdp_eq_some_iff {n : Nat} :
    findUdp s ifx src dst srcPort dstPort = some n ↔ udpMatch s ifx src dst srcPort dstPort n := by
  rw [findUdp, findIdx_socks_eq_some_iff]
  simp only [candidateU_iff, udpMatch]

theorem findTcp_eq_none (h : ∀ n, ¬ tcpMatch s ifx src dst srcPort dstPort n) :
    findTcp s ifx src dst srcPort dstPort = none :=
  Option.eq_none_iff_forall_ne_some.mpr fun n found => h n (findTcp_eq_some_iff.mp found)

theorem findUdp_eq_none (h : ∀ n, ¬ udpMatch s ifx src dst srcPort dstPort n) :
    findUdp s ifx src dst srcPort dstPort = none :=
  Option.eq_none_iff_forall_ne_some.mpr fun n found => h n (findUdp_eq_some_iff.mp found)

end scans

/-! The two commands. -/

section lookups
variable {s : State}

theorem lookupEnd_some (n : Nat) :
    lookupEnd (setR0 s 0) (some n) = { s with r0 := BitVec.ofNat 32 n, st := 0 } := rfl

theorem lookupEnd_none :
    lookupEnd (setR0 s 0) none = { dropped s .portUnreachable with r0 := 0xFFFFFFFF } := rfl

variable {ifx : Byte} {src dst ports : Word} (hl : s.lock = .held s.tid)
include hl

theorem exec_lookup_refused (hi : s.par.nIf ≤ ifx.toNat) :
    exec (.lookupt ifx) s = .next (refused s .badOperand) ∧
      exec (.lookupu ifx) s = .next (refused s .badOperand) := by
  have missing : s.hasIface ifx = false := decide_eq_false (Nat.not_lt.mpr hi)
  have illegal (body : State → State) :
      runCommand s true [0, 1, 2] (s.hasIface ifx) body = refused s .badOperand := by
    rw [missing]
    exact runCommand_illegal (fun _ => hl) _ _
  exact ⟨congrArg Host.Outcome.next (illegal _), congrArg Host.Outcome.next (illegal _)⟩

variable (hi : ifx.toNat < s.par.nIf) (h0 : s.a[(0 : Fin 8)] = some src) (h1 : s.a[(1 : Fin 8)] = some dst)
  (h2 : s.a[(2 : Fin 8)] = some ports)
include hi h0 h1 h2

/-- A lookup with its interface in range and its operands written runs (45_host_ops.md R282). -/
theorem runCommand_lookup (body : State → State) :
    runCommand s true [0, 1, 2] (s.hasIface ifx) body = body (setR0 s 0) :=
  have hr : [0, 1, 2].all s.written = true := by
    simp [written_of_eq_some h0, written_of_eq_some h1, written_of_eq_some h2]
  runCommand_runs s _ _ _ _ (fun _ => hl) hr (hasIface_of_lt hi)

theorem exec_lookupt :
    exec (.lookupt ifx) s =
      .next (lookupEnd (setR0 s 0) (findTcp s ifx src dst (srcPortOf ports) (dstPortOf ports))) := by
  rw [← reg_of_eq_some h0, ← reg_of_eq_some h1, ← reg_of_eq_some h2]
  exact congrArg Host.Outcome.next (runCommand_lookup hl hi h0 h1 h2 _)

theorem exec_lookupu :
    exec (.lookupu ifx) s =
      .next (lookupEnd (setR0 s 0) (findUdp s ifx src dst (srcPortOf ports) (dstPortOf ports))) := by
  rw [← reg_of_eq_some h0, ← reg_of_eq_some h1, ← reg_of_eq_some h2]
  exact congrArg Host.Outcome.next (runCommand_lookup hl hi h0 h1 h2 _)

end lookups

/-- Settles O33: each lookup ends with what its scan finds, which is the match. -/
theorem lookupFindsTheMatch : Obligations.LookupFindsTheMatch := by
  unfold Obligations.LookupFindsTheMatch
  intro s ifx src dst ports hl h0 h1 h2
  refine ⟨exec_lookup_refused hl, fun hi => ?_⟩
  rw [exec_lookupt hl hi h0 h1 h2, exec_lookupu hl hi h0 h1 h2]
  refine ⟨fun n h => ?_, fun h => ?_, fun n h => ?_, fun h => ?_⟩
  · rw [srcPortOf, dstPortOf, findTcp_eq_some_iff.mpr h, lookupEnd_some]
  · rw [srcPortOf, dstPortOf, findTcp_eq_none h, lookupEnd_none]
  · rw [srcPortOf, dstPortOf, findUdp_eq_some_iff.mpr h, lookupEnd_some]
  · rw [srcPortOf, dstPortOf, findUdp_eq_none h, lookupEnd_none]

end Sys2Proof.Proofs
end

section
/-! What a TCP operation does beside writing its record: the frame of `tcpFrame`, the events it signals and the segment
it hands to the link (44_tcp_fsm.md R223, R232, R233, R257). One rule per primitive update; the rules for the send path
rest on what one call of it does. -/

namespace Sys2Proof.Proofs

open Machine Claims

/-! Handing a segment to the link. -/

/-- A segment for the send path, with the interface and the addresses it is sent under. -/
structure Outgoing where
  ifx : Byte
  src : Word
  dst : Word
  seg : OutSegment

/-- The send path on an outgoing segment (44_tcp_fsm.md R232, R233). -/
def sendOut (o : Outgoing) (s : State) : State :=
  sendIp o.ifx o.src o.dst 6 s.par.defaultTtl s.par.defaultTos (segmentBytes s.par o.src o.dst o.seg) s

/-- What record `k` sends with the given flags and sequence number (44_tcp_fsm.md R232). -/
def fromRecord (p : Params) (k : Sock) (flags : BitVec 6) (seq : Word) : Outgoing :=
  ⟨k.ifx, k.localAddr.word, k.remoteAddr.word, outSegmentOf p k flags seq⟩

/-- The acknowledgement that record `k` sends (44_tcp_fsm.md R231). -/
def ackFrom (p : Params) (k : Sock) : Outgoing := ⟨k.ifx, k.localAddr.word, k.remoteAddr.word, ackOf p k⟩

theorem sendSegment_eq (i : Nat) (flags : BitVec 6) (seq : Word) (s : State) :
    sendSegment i flags seq s = sendOut (fromRecord s.par (s.sock i) flags seq) s := rfl

theorem sendAck_eq (i : Nat) (s : State) : sendAck i s = sendOut (ackFrom s.par (s.sock i)) s := rfl

theorem sendReset_eq (ifx : Byte) (src dst : Word) (seg : Segment) (s : State) :
    sendReset ifx src dst seg s = sendOut ⟨ifx, dst, src, resetTo seg⟩ s := rfl

/-- The FSM sends no option but the MSS, so every segment of it fits the least MTU (44_tcp_fsm.md R232). -/
def Outgoing.short (o : Outgoing) : Prop := o.seg.opt.length ≤ 4

theorem fromRecord_short (p : Params) (k : Sock) (flags : BitVec 6) (seq : Word) :
    (fromRecord p k flags seq).short := by
  unfold Outgoing.short fromRecord outSegmentOf
  dsimp only
  split <;> simp [enc16]

theorem ackFrom_short (p : Params) (k : Sock) : (ackFrom p k).short := Nat.zero_le _

theorem reset_short (ifx : Byte) (src dst : Word) (seg : Segment) : Outgoing.short ⟨ifx, src, dst, resetTo seg⟩ := by
  unfold Outgoing.short resetTo
  dsimp only
  split <;> exact Nat.zero_le _

theorem length_segmentBytes (p : Params) (src dst : Word) (g : OutSegment) :
    (segmentBytes p src dst g).length = 20 + g.opt.length := by
  simp [segmentBytes, segmentWith, enc16, enc32]
  omega

theorem wire_eq (p : Params) (src dst : Word) (g : OutSegment) : wire p src dst g = segmentBytes p src dst g := rfl

/-! The counters. -/

theorem counter_count_other {c : Cause} {b : Byte} (h : b ≠ c.code) (s : State) :
    counter b (count s c) = counter b s :=
  Vector.getElem_set_ne c.code.isLt b.isLt fun e => h (BitVec.eq_of_toNat_eq e).symm

theorem counter_count_same (c : Cause) (s : State) : counter c.code (count s c) = counter c.code s + 1 :=
  Vector.getElem_set_self c.code.isLt

section sendPath
variable {b : Byte} (h28 : b ≠ Cause.txBadMtu.code) (h29 : b ≠ Cause.txFail.code) (s : State)
include h28 h29

omit h28 in
theorem counter_fragmentLoop_other (g : Datagram) (m fuel off : Nat) (pay : Bytes) :
    counter b (fragmentLoop g m fuel off pay s) = counter b s := by
  induction fuel generalizing off pay s with
  | zero => rfl
  | succ fuel ih =>
    by_cases hp : pay = []
    · rw [hp, fragmentLoop_nil, counter_done]
    · rw [fragmentLoop_of_ne_nil _ _ _ _ hp]
      dsimp only
      split
      · rw [ih, counter_setR0, counter_emitState]
      · exact (counter_count_other h29 _).trans (counter_emitState ..)

/-- The send path counts 0x28 and 0x29 only, for a payload that one datagram can hold (41_ip_admission.md R170). -/
theorem counter_sendIp_other (ifx : Byte) (src dst : Word) (proto ttl tos : Byte) {pay : Bytes}
    (hp : 20 + pay.length ≤ 65535) : counter b (sendIp ifx src dst proto ttl tos pay s) = counter b s := by
  unfold sendIp sendFragments
  dsimp only
  rw [if_neg (Nat.not_lt.mpr hp)]
  split
  · exact counter_count_other h28 _
  · split
    · split
      · simp
      · exact (counter_count_other h29 _).trans (counter_emitState ..)
    · split
      · exact counter_count_other h28 _
      · exact counter_fragmentLoop_other h29 ..

theorem counter_sendOut_other {o : Outgoing} (ho : o.short) : counter b (sendOut o s) = counter b s := by
  refine counter_sendIp_other h28 h29 s _ _ _ _ _ _ ?_
  rw [length_segmentBytes]
  unfold Outgoing.short at ho
  omega

end sendPath

/-- One call of the send path hands exactly one segment to the link. -/
theorem oneSegment_sendOut (o : Outgoing) (s : State) : oneSegment s (sendOut o s) o.ifx o.src o.dst o.seg := by
  refine ⟨fun hm => ?_, fun hp => ?_⟩
  · unfold sendOut
    rw [sendIp_of_mtu_zero _ _ _ _ _ hm]
    exact ⟨rfl, rfl, counter_count_same .txBadMtu _, counter_count_other (c := .txBadMtu) (b := 0x29) (by decide) _⟩
  · have hm : (s.iface o.ifx.toNat).mtu ≠ 0 := fun h => by simp [h] at hp
    rw [wire_eq] at hp
    unfold sendOut
    rw [sendIp_fitting _ _ _ _ _ hm hp]
    dsimp only
    split
    case isTrue accepted =>
      refine ⟨emitState_ifs .., counter_emitState 0x28 _ _, ?_, counter_emitState 0x29 _ _⟩
      rw [done_txq, setR0_txq, emitState_txq, advanceId_linkAnswer, if_pos accepted]
      rfl
    case isFalse refused =>
      refine ⟨emitState_ifs .., ?_, ?_, ?_⟩
      · exact (counter_count_other (c := .txFail) (b := 0x28) (by decide) _).trans (counter_emitState 0x28 _ _)
      · rw [drop_txq, setR0_txq, emitState_txq, advanceId_linkAnswer, if_neg refused]
        rfl
      · exact (counter_count_same .txFail _).trans (congrArg (· + 1) (counter_emitState 0x29 _ _))

/-! What is handed to the link, of all an operation does. -/

/-- The link's side of a state: the parameters, the queue, the interfaces, the two counters of the send path, and what
the link and `deferAck` answer next. -/
structure SameLink (s t : State) : Prop where
  par : t.par = s.par
  txq : t.txq = s.txq
  ifs : t.ifs = s.ifs
  cnt28 : counter 0x28 t = counter 0x28 s
  cnt29 : counter 0x29 t = counter 0x29 s
  link : t.link = s.link
  free : t.free = s.free
  deferIn : t.deferIn = s.deferIn

theorem SameLink.refl (s : State) : SameLink s s := ⟨rfl, rfl, rfl, rfl, rfl, rfl, rfl, rfl⟩

theorem SameLink.trans {s t u : State} (h : SameLink s t) (g : SameLink t u) : SameLink s u :=
  ⟨g.par.trans h.par, g.txq.trans h.txq, g.ifs.trans h.ifs, g.cnt28.trans h.cnt28, g.cnt29.trans h.cnt29,
    g.link.trans h.link, g.free.trans h.free, g.deferIn.trans h.deferIn⟩

theorem SameLink.linkAnswer {s t : State} (h : SameLink s t) : linkAnswer t = linkAnswer s := by
  unfold Machine.linkAnswer
  rw [h.link, h.free]

theorem SameLink.deferAnswer {s t : State} (h : SameLink s t) : deferAnswer t = deferAnswer s := by
  unfold Machine.deferAnswer
  rw [h.deferIn, h.free]

theorem SameLink.deferAsked {s t : State} (h : SameLink s t) : SameLink (deferAsked s) (deferAsked t) := by
  constructor
  case cnt28 => simpa using h.cnt28
  case cnt29 => simpa using h.cnt29
  all_goals simp [h.par, h.txq, h.ifs, h.link, h.free, h.deferIn]

theorem SameLink.noSegment {s t : State} (h : SameLink s t) : noSegment s t := ⟨h.txq, h.ifs, h.cnt28, h.cnt29⟩

section oneSegment
variable {s t u : State} {ifx : Byte} {src dst : Word} {g : OutSegment}

/-- What is done after a segment is handed over, away from the link, does not matter. -/
theorem SameLink.oneSegment_after (h : SameLink t u) (hs : oneSegment s t ifx src dst g) :
    oneSegment s u ifx src dst g := by
  have c28 : u.cnt[0x28] = t.cnt[0x28] := h.cnt28
  have c29 : u.cnt[0x29] = t.cnt[0x29] := h.cnt29
  unfold oneSegment
  rw [h.txq, h.ifs, c28, c29]
  exact hs

/-- Nor does what is done before. -/
theorem SameLink.oneSegment_before (h : SameLink s t) (hs : oneSegment t u ifx src dst g) :
    oneSegment s u ifx src dst g := by
  have c28 : t.cnt[0x28] = s.cnt[0x28] := h.cnt28
  have c29 : t.cnt[0x29] = s.cnt[0x29] := h.cnt29
  unfold oneSegment at hs
  rw [h.txq, h.ifs, c28, c29, h.par, iface_congr s t h.ifs h.par, h.linkAnswer] at hs
  exact hs

end oneSegment

/-- What is handed to the link between two states. Where it is nothing, the link and the hook would answer as before. -/
def handed : Option Outgoing → State → State → Prop
  | none, s, t => SameLink s t
  | some o, s, t => oneSegment s t o.ifx o.src o.dst o.seg

theorem handed_after {s t u : State} {o : Option Outgoing} (ho : handed o s t) (h : SameLink t u) : handed o s u := by
  cases o with
  | none => exact SameLink.trans ho h
  | some o => exact h.oneSegment_after ho

/-! The whole effect of an operation, the records it writes apart. -/

/-- From `s` to `t` the records `is` may be written, `c` is counted (or nothing), the events `evs` are signalled, and
`o` (or nothing) is handed to the link, `u` being the state that asks it: `s`, or `s` once a hook has answered. -/
structure Effect (is : List Nat) (c : Option Cause) (evs : List EvEntry) (u : State) (o : Option Outgoing)
    (s t : State) : Prop where
  tables : SameTables s t
  others : ∀ j, j ∉ is → t.sock j = s.sock j
  reports : t.icmpq = s.icmpq
  handOffs : t.upq = s.upq
  output : t.out = s.out
  counters : countsOnly c s t
  events : t.evq = s.evq ++ evs
  link : handed o u t

theorem countsOnly_iff {c : Option Cause} {s t : State} : countsOnly c s t ↔ ∀ b : Byte, b ≠ 0x28 → b ≠ 0x29 →
    counter b t = counter b s + (if c.map Cause.code = some b then 1 else 0) := Iff.rfl

theorem Effect.refl (is : List Nat) (s : State) : Effect is none [] s none s s where
  tables := .refl s
  others _ _ := rfl
  reports := rfl
  handOffs := rfl
  output := rfl
  counters := countsOnly_iff.mpr fun _ _ _ => (BitVec.add_zero _).symm
  events := (List.append_nil _).symm
  link := .refl s

section rules
variable {is : List Nat} {c : Option Cause} {evs : List EvEntry} {u : State} {o : Option Outgoing} {s t : State}

theorem Effect.frame (h : Effect is c evs u o s t) : tcpFrame is c s t := by
  obtain ⟨a, cmd, tid, lock, now, par, mem, port, ifsLen, socksLen⟩ := h.tables.toKept
  refine ⟨⟨a, cmd, tid, lock, now, par, mem, port⟩, socksLen, h.others, ⟨ifsLen, fun j => ?_⟩, h.reports, h.handOffs,
    h.output, h.counters⟩
  obtain ⟨x, hx⟩ := h.tables.iface j
  rw [hx]

theorem Effect.quiet (h : Effect is c [] u o s t) : quiet is c s t :=
  ⟨h.frame, h.events.trans (List.append_nil _)⟩

theorem Effect.done (h : Effect is c evs u o s t) (e : Cause) : Effect is c evs u o s (done t e) :=
  { h with
    tables := (sameTables_records s).done h.tables e
    link := handed_after h.link ⟨rfl, rfl, rfl, rfl, rfl, rfl, rfl, rfl⟩ }

theorem Effect.setSock (h : Effect is c evs u o s t) {i : Nat} (hi : i ∈ is) (k : Sock) :
    Effect is c evs u o s (setSock t i k) :=
  { h with
    tables := (sameTables_records s).setSock h.tables i k
    others := fun j hj => (sock_setSock_other t i j k fun e => hj (e ▸ hi)).trans (h.others j hj)
    link := handed_after h.link ⟨rfl, rfl, rfl, rfl, rfl, rfl, rfl, rfl⟩ }

theorem Effect.updSock (h : Effect is c evs u o s t) {i : Nat} (hi : i ∈ is) (f : Sock → Sock) :
    Effect is c evs u o s (updSock t i f) :=
  h.setSock hi _

theorem Effect.signal (h : Effect is c evs u o s t) (i : Nat) (e : EventKind) :
    Effect is c (evs ++ [⟨BitVec.ofNat 8 i, e⟩]) u o s (signal t i e) :=
  { h with
    tables := (sameTables_records s).signal h.tables i e
    events := by rw [signal_evq, h.events, List.append_assoc]
    link := handed_after h.link ⟨rfl, rfl, rfl, rfl, rfl, rfl, rfl, rfl⟩ }

/-- The causes of the send path (30_encoding.md R120). -/
def ofSendPath (e : Cause) : Bool := decide (e.code = 0x28 ∨ e.code = 0x29)

theorem Effect.count (h : Effect is none evs u o s t) {e : Cause} (he : ofSendPath e = false) :
    Effect is (some e) evs u o s (count t e) :=
  have ⟨h28, h29⟩ := not_or.mp (of_decide_eq_false he)
  { h with
    tables := (sameTables_records s).count h.tables e
    counters := countsOnly_iff.mpr fun b b28 b29 => by
      have before : counter b t = counter b s :=
        by simpa using countsOnly_iff.mp h.counters b b28 b29
      by_cases hb : b = e.code
      · subst hb
        rw [counter_count_same, before, if_pos (by rfl)]
      · rw [counter_count_other hb, before, if_neg (by simpa using fun e => hb e.symm)]
        simp
    link := handed_after h.link
      { SameLink.refl t with
        cnt28 := counter_count_other (fun e => h28 e.symm) t
        cnt29 := counter_count_other (fun e => h29 e.symm) t } }

theorem Effect.drop (h : Effect is none evs u o s t) {e : Cause} (he : ofSendPath e = false) :
    Effect is (some e) evs u o s (drop t e) :=
  (h.done e).count he

theorem Effect.send (h : Effect is c evs u none s t) {x : Outgoing} (hx : x.short) :
    Effect is c evs u (some x) s (sendOut x t) :=
  have sent := sendIp_unsent x.ifx x.src x.dst 6 t.par.defaultTtl t.par.defaultTos
    (segmentBytes t.par x.src x.dst x.seg) t
  { tables := (sameTables_records s).sendIp h.tables ..
    others := fun j hj => (sock_congr _ _ sent.socks j).trans (h.others j hj)
    reports := sent.icmpq.trans h.reports
    handOffs := sent.upq.trans h.handOffs
    output := sent.out.trans h.output
    counters := fun b h28 h29 => (counter_sendOut_other h28 h29 t hx).trans (h.counters b h28 h29)
    events := sent.evq.trans h.events
    link := SameLink.oneSegment_before h.link (oneSegment_sendOut x t) }

theorem Effect.sendSegment (h : Effect is c evs u none s t) {i : Nat} {k : Sock} (hk : t.sock i = k)
    (flags : BitVec 6) (seq : Word) :
    Effect is c evs u (some (fromRecord s.par k flags seq)) s (sendSegment i flags seq t) := by
  rw [sendSegment_eq, ← h.tables.par, hk]
  exact h.send (fromRecord_short ..)

theorem Effect.sendAck (h : Effect is c evs u none s t) {i : Nat} {k : Sock} (hk : t.sock i = k) :
    Effect is c evs u (some (ackFrom s.par k)) s (sendAck i t) := by
  rw [sendAck_eq, ← h.tables.par, hk]
  exact h.send (ackFrom_short ..)

theorem Effect.sendReset (h : Effect is c evs u none s t) (ifx : Byte) (src dst : Word) (seg : Segment) :
    Effect is c evs u (some ⟨ifx, dst, src, resetTo seg⟩) s (sendReset ifx src dst seg t) := by
  rw [sendReset_eq]
  exact h.send (reset_short ..)

theorem Effect.rtoAsked (s : State) (is : List Nat) : Effect is none [] (rtoAsked s) none s (rtoAsked s) where
  tables := (sameTables_records s).rtoAsked (.refl s)
  others j _ := rtoAsked_sock s j
  reports := rtoAsked_icmpq s
  handOffs := rtoAsked_upq s
  output := rtoAsked_out s
  counters := countsOnly_iff.mpr fun b _ _ => (counter_rtoAsked b s).trans (BitVec.add_zero _).symm
  events := (rtoAsked_evq s).trans (List.append_nil _).symm
  link := .refl _

/-- The hook is asked after other work, and answers as it would have answered before it. -/
theorem Effect.deferAsked (h : Effect is c evs s none s t) :
    Effect is c evs (deferAsked s) none s (deferAsked t) where
  tables := (sameTables_records s).deferAsked h.tables
  others j hj := (deferAsked_sock t j).trans (h.others j hj)
  reports := (deferAsked_icmpq t).trans h.reports
  handOffs := (deferAsked_upq t).trans h.handOffs
  output := (deferAsked_out t).trans h.output
  counters := countsOnly_iff.mpr fun b h28 h29 =>
    (counter_deferAsked b t).trans (countsOnly_iff.mp h.counters b h28 h29)
  events := (deferAsked_evq t).trans h.events
  link := SameLink.deferAsked h.link

end rules

end Sys2Proof.Proofs
end

section
/-! The state operations up to the payload: the checks of the synchronized states, and the results of the operations
that take no data (44_tcp_fsm.md R225 to R228, R234 to R237, R240 to R243, R246, R249, R250). -/

namespace Sys2Proof.Proofs

open Machine Claims

/-! Records. -/

theorem setSock_setSock (s : State) (i : Nat) (k g : Sock) : setSock (setSock s i k) i g = setSock s i g := by
  simp [setSock]

theorem setSock_self (s : State) (i : Nat) : setSock s i (s.sock i) = s := by
  unfold setSock State.sock
  rcases Nat.lt_or_ge i s.socks.length with h | h
  · rw [List.getD_eq_getElem _ _ h, List.set_getElem_self]
  · rw [List.set_eq_of_length_le h]

theorem updSock_updSock {s : State} {i : Nat} (f : Sock → Sock) {g : Sock → Sock} (h : i < s.socks.length) :
    updSock (updSock s i f) i g = setSock s i (g (f (s.sock i))) := by
  unfold updSock
  rw [sock_setSock_same _ _ _ h, setSock_setSock]

theorem enterClosed_eq (i : Nat) (byReset : Bool) (s : State) :
    enterClosed i byReset s = setSock s i (closedFrom byReset (s.sock i)) := by
  unfold enterClosed closedFrom
  split
  · cases byReset <;> rfl
  · rfl

theorem enterTimeWait_eq (i : Nat) (s : State) : enterTimeWait i s = setSock s i (waitFrom s.now (s.sock i)) := rfl

theorem afterAck_sndNxt (seg : Segment) (k : Sock) : (afterAck seg k).sndNxt = k.sndNxt := by
  unfold afterAck
  split <;> rfl

section operation
variable {s : State} {sock ifx : Byte} {src dst : Word} {seg : Segment}

theorem indexed_lt (h : indexed s sock ifx) : sock.toNat < s.socks.length := by
  obtain ⟨-, hk, -, hs⟩ := h
  rwa [hs]

theorem stateOp_of_indexed (h : indexed s sock ifx) (body : State → State) :
    stateOp sock ifx body s = .next (body s) := by
  obtain ⟨hi, hk, -⟩ := h
  simp [stateOp, State.hasIface, State.hasSock, hi, hk]

/-! Ending with a segment on its way. -/

/-- An operation that hands over a segment and drops: the status, the records, the frame, the segment. -/
theorem sent_and_dropped {o : Outgoing} (ho : o.short) {c : Cause} {x : Instr}
    (hx : exec x s = .next (drop (sendOut o s) c)) (hc : ofSendPath c = false) :
    ∃ t, exec x s = .next t ∧ t.st = c.code ∧ t.socks = s.socks ∧ quiet [] (some c) s t ∧
      oneSegment s t o.ifx o.src o.dst o.seg :=
  have effect : Effect [] (some c) [] s (some o) s (drop (sendOut o s) c) := ((Effect.refl [] s).send ho).drop hc
  ⟨_, hx, rfl, (sendIp_unsent ..).socks, effect.quiet, effect.link⟩

end operation

/-! The checks, in their order. -/

section checks
variable {s : State} {i : Nat} {ifx : Byte} {src dst : Word} {seg : Segment}

theorem acceptable_iff {k : Sock} : acceptable k seg = true ↔ inWindow k seg := by
  unfold acceptable inWindow
  dsimp only
  split
  · split <;> simp
  · split
    · simp [*]
    · rename_i hw
      simpa using fun _ _ => hw

theorem std3_of_not_inWindow (h : ¬ inWindow (s.sock i) seg) : std3 i ifx src dst seg s =
    .ended (drop (if has seg flagRST then s else sendAck i s) .tcpSeqUnacceptable) := by
  unfold std3 seqCheck
  rw [if_neg fun ha => h (acceptable_iff.mp ha)]
  rfl

theorem std3_of_inWindow (h : inWindow (s.sock i) seg) :
    std3 i ifx src dst seg s = (rstCheck i seg s).andThen (synCheck i ifx src dst seg) := by
  unfold std3 seqCheck
  rw [if_pos (acceptable_iff.mpr h)]
  rfl

theorem std3_of_reset (h : inWindow (s.sock i) seg) (hr : has seg flagRST = true) :
    std3 i ifx src dst seg s = .ended (done (setSock s i (closedFrom true (s.sock i))) .tcpReset) := by
  rw [std3_of_inWindow h, rstCheck, if_pos hr, enterClosed_eq]
  rfl

theorem std3_of_not_reset (h : inWindow (s.sock i) seg) (hr : has seg flagRST = false) :
    std3 i ifx src dst seg s = synCheck i ifx src dst seg s := by
  rw [std3_of_inWindow h, rstCheck, if_neg (by simp [hr])]
  rfl

theorem std3_of_passes (h : passes (s.sock i) seg) : std3 i ifx src dst seg s = .go s := by
  obtain ⟨hw, hr, hy⟩ := h
  rw [std3_of_not_reset hw hr]
  exact if_neg (by simp [hy])

theorem std3_of_not_passes (h : ¬ passes (s.sock i) seg) : ∃ t, std3 i ifx src dst seg s = .ended t := by
  by_cases hw : inWindow (s.sock i) seg
  · cases hr : has seg flagRST with
    | true => exact ⟨_, std3_of_reset hw hr⟩
    | false =>
      have hy : has seg flagSYN = true := by
        by_contra hy
        exact h ⟨hw, hr, by simpa using hy⟩
      exact ⟨_, (std3_of_not_reset hw hr).trans (if_pos hy)⟩
  · exact ⟨_, std3_of_not_inWindow hw⟩

theorem std4_andThen (k : State → Flow) : (std4 i ifx src dst seg s).andThen k =
    (std3 i ifx src dst seg s).andThen fun u => (ackProc i seg u).andThen k := by
  unfold std4
  cases std3 i ifx src dst seg s <;> rfl

theorem ackProc_of_missing (h : has seg flagACK = false) : ackProc i seg s = .ended (drop s .tcpIgnored) := by
  rw [ackProc, if_neg (by simp [h])]

theorem ackProc_of_beyond (h : has seg flagACK = true) (hb : seqGT seg.ack (s.sock i).sndNxt = true) :
    ackProc i seg s = .ended (drop (sendAck i s) .tcpBadAck) := by
  rw [ackProc, if_pos h, if_pos hb]

theorem ackProc_of_good (h : has seg flagACK = true) (hb : seqGT seg.ack (s.sock i).sndNxt = false) :
    ackProc i seg s = .go (setSock s i (afterAck seg (s.sock i))) := by
  rw [ackProc, if_pos h, if_neg (by simp [hb]), afterAck]
  split
  · rfl
  · rw [setSock_self]

theorem std4_of_passesAck (h : passesAck (s.sock i) seg) :
    std4 i ifx src dst seg s = .go (setSock s i (afterAck seg (s.sock i))) := by
  obtain ⟨hp, ha, hb⟩ := h
  rw [std4, std3_of_passes hp]
  exact ackProc_of_good ha hb

theorem std4_of_not_passesAck (h : ¬ passesAck (s.sock i) seg) : ∃ t, std4 i ifx src dst seg s = .ended t := by
  by_cases hp : passes (s.sock i) seg
  · rw [std4, std3_of_passes hp]
    cases ha : has seg flagACK with
    | false => exact ⟨_, ackProc_of_missing ha⟩
    | true =>
      have hb : seqGT seg.ack (s.sock i).sndNxt = true := by
        by_contra hb
        exact h ⟨hp, ha, by simpa using hb⟩
      exact ⟨_, ackProc_of_beyond ha hb⟩
  · obtain ⟨t, ht⟩ := std3_of_not_passes (ifx := ifx) (src := src) (dst := dst) hp
    exact ⟨t, by rw [std4, ht]; rfl⟩

end checks

/-! The operations that begin with the checks. -/

section operations
variable {s : State} {sock ifx : Byte} {src dst : Word} {seg : Segment}

/-- How an operation of the synchronized states goes on behind the three checks: without ACK it ends at once, and where
it checks the acknowledgement number, so it does beyond `sndNxt`. -/
structure GoesOn (s : State) (i : Nat) (seg : Segment) (checksAck : Prop) (k : State → Flow) : Prop where
  missing : has seg flagACK = false → k s = .ended (drop s .tcpIgnored)
  beyond : checksAck → has seg flagACK = true → seqGT seg.ack (s.sock i).sndNxt = true →
    k s = .ended (drop (sendAck i s) .tcpBadAck)

theorem goesOn_of_ackProc (s : State) (i : Nat) (seg : Segment) (c : Prop) (k : State → Flow) :
    GoesOn s i seg c fun u => (ackProc i seg u).andThen k where
  missing h := by rw [ackProc_of_missing h]; rfl
  beyond _ h hb := by rw [ackProc_of_beyond h hb]; rfl

/-- The two operations that do not check the acknowledgement number (44_tcp_fsm.md R243, R246). -/
def checksAck (sock ifx : Byte) (src dst : Word) (seg : Segment) (op : Instr) : Prop :=
  op ∈ dataOps sock ifx src dst seg ∨ op = .tcpsClosing sock ifx src dst seg

theorem exec_of_std4 (h : indexed s sock ifx) {op : Instr} {k : State → Flow}
    (hop : exec op s = stateOp sock ifx (fun s => ((std4 sock.toNat ifx src dst seg s).andThen k).state) s) :
    ∃ k, exec op s = .next ((std3 sock.toNat ifx src dst seg s).andThen k).state ∧
      GoesOn s sock.toNat seg (checksAck sock ifx src dst seg op) k := by
  refine ⟨_, ?_, goesOn_of_ackProc s sock.toNat seg _ k⟩
  rw [hop, stateOp_of_indexed h, std4_andThen]

theorem exec_synchronized (h : indexed s sock ifx) {op : Instr}
    (hop : op ∈ synchronizedOps sock ifx src dst seg) :
    ∃ k, exec op s = .next ((std3 sock.toNat ifx src dst seg s).andThen k).state ∧
      GoesOn s sock.toNat seg (checksAck sock ifx src dst seg op) k := by
  simp only [synchronizedOps, List.mem_cons, List.not_mem_nil, or_false] at hop
  rcases hop with rfl | rfl | rfl | rfl | rfl | rfl | rfl
  case inl =>
    refine ⟨_, stateOp_of_indexed h _, fun ha => if_pos ha, fun hc => ?_⟩
    simp [checksAck, dataOps] at hc
  case inr.inr.inr.inl =>
    refine ⟨_, stateOp_of_indexed h _, fun ha => if_neg (by simp [ha]), fun hc => ?_⟩
    simp [checksAck, dataOps] at hc
  all_goals exact exec_of_std4 h rfl

end operations

/-- Settles O46: an operation of the synchronized states ends where the first check that fails ends it. -/
theorem synchronizedChecksInOrder : Obligations.SynchronizedChecksInOrder := by
  unfold Obligations.SynchronizedChecksInOrder
  intro s sock ifx src dst seg h k op hop
  obtain ⟨go, hexec, hgo⟩ := exec_synchronized (src := src) (dst := dst) h hop
  refine ⟨fun hw => ?_, fun hw hr => ?_, fun hw hr hy => ?_, fun hp ha => ?_, fun hc hp ha hb => ?_⟩
  · rw [std3_of_not_inWindow hw] at hexec
    split
    case isTrue hr =>
      rw [hexec, if_pos hr]
      rfl
    case isFalse hr =>
      rw [if_neg hr] at hexec
      exact sent_and_dropped (ackFrom_short ..) hexec rfl
  · rw [hexec, std3_of_reset hw hr]
    rfl
  · rw [std3_of_not_reset hw hr, synCheck, if_pos hy] at hexec
    have effect := (Effect.refl [sock.toNat] s).sendReset ifx src dst seg
    have hsock : (sendReset ifx src dst seg s).sock sock.toNat = k := sock_congr _ _ (sendReset_socks ..) _
    dsimp only at hexec
    rw [enterClosed_eq, hsock] at hexec
    refine ⟨_, hexec, rfl, ?_⟩
    split
    case isTrue hc =>
      have hlt : sock.toNat < (sendReset ifx src dst seg s).socks.length := by
        rw [sendReset_socks]
        exact indexed_lt h
      have effect := (effect.setSock (i := sock.toNat) (by simp) (closedFrom true k)).drop (e := .tcpSynInWindow) rfl
      exact ⟨sock_setSock_same _ _ _ hlt, effect.quiet, effect.link⟩
    case isFalse hc =>
      have effect := effect.drop (e := .tcpSynInWindow) rfl
      exact ⟨hsock, effect.quiet, effect.link⟩
  · rw [hexec, std3_of_passes hp]
    exact congrArg (fun f => Host.Outcome.next f.state) (hgo.missing ha)
  · refine sent_and_dropped (c := .tcpBadAck) (ackFrom_short ..) (hexec.trans ?_) rfl
    rw [std3_of_passes hp]
    exact congrArg (fun f => Host.Outcome.next f.state) (hgo.beyond hc ha hb)

/-- Settles O47: behind the checks SYN-RECEIVED is ESTABLISHED on the record with the window taken. -/
theorem synRcvdFallsThrough : Obligations.SynRcvdFallsThrough := by
  unfold Obligations.SynRcvdFallsThrough
  intro s sock ifx src dst seg h k op g hp ha
  have hexec : exec op s = .next (tcpSynRcvd sock.toNat ifx src dst seg s) := stateOp_of_indexed h _
  rw [tcpSynRcvd, std3_of_passes hp, Flow.andThen, if_neg (by simp [ha])] at hexec
  refine ⟨fun heq => ?_, fun hne => ?_⟩
  · rw [if_neg (not_not.mpr heq)] at hexec
    have hg : indexed (setSock s sock.toNat g) sock ifx := by
      obtain ⟨hi, hk, hifs, hsocks⟩ := h
      exact ⟨hi, hk, hifs, by simpa using hsocks⟩
    exact ⟨_, hexec, stateOp_of_indexed hg _⟩
  · rw [if_pos hne] at hexec
    exact sent_and_dropped (o := ⟨ifx, dst, src, resetTo seg⟩) (reset_short ..) hexec rfl

/-- Settles O52: the two closing states and TIME-WAIT, path by path. -/
theorem closingStatesResults : Obligations.ClosingStatesResults := by
  unfold Obligations.ClosingStatesResults
  intro s sock ifx src dst seg h k last closing wait checked put
  have hchecked : exec checked s = .next (tcpEstablished sock.toNat ifx src dst seg s) := stateOp_of_indexed h _
  have hlast : exec last s = .next (tcpLastAck sock.toNat ifx src dst seg s) := stateOp_of_indexed h _
  have hclosing : exec closing s = .next (tcpClosing sock.toNat ifx src dst seg s) := stateOp_of_indexed h _
  have hwait : exec wait s = .next (tcpTimeWait sock.toNat seg s) := stateOp_of_indexed h _
  refine ⟨fun hp => ?_, fun hp => ?_, fun hp => ?_, fun hp => ?_, ?_⟩
  · obtain ⟨t, ht⟩ := std3_of_not_passes (ifx := ifx) (src := src) (dst := dst) hp
    rw [tcpEstablished, std4_andThen, ht] at hchecked
    rw [tcpLastAck, ht] at hlast
    exact ⟨t, hchecked, hlast⟩
  · rw [hlast, tcpLastAck, std3_of_passes hp, Flow.andThen]
    split
    · rw [enterClosed_eq]
      rfl
    · rfl
  · obtain ⟨t, ht⟩ := std4_of_not_passesAck (ifx := ifx) (src := src) (dst := dst) hp
    rw [tcpEstablished, ht] at hchecked
    rw [tcpClosing, ht] at hclosing
    exact ⟨t, hchecked, hclosing⟩
  · have hsock := sock_setSock_same s sock.toNat (afterAck seg k) (indexed_lt h)
    rw [hclosing, tcpClosing, std4_of_passesAck hp, Flow.andThen, enterTimeWait_eq, setSock_setSock, hsock,
      afterAck_sndNxt]
    split <;> rfl
  · rw [tcpTimeWait] at hwait
    split
    case isTrue hr => rw [hwait, if_pos hr, enterClosed_eq]; rfl
    case isFalse hr =>
      rw [if_neg hr] at hwait
      rw [finSeq] at hwait
      split
      case isTrue hf =>
        rw [if_pos hf] at hwait
        have sent : (sendAck sock.toNat s).sock sock.toNat = k := sock_congr _ _ (sendAck_socks ..) _
        have hlt : sock.toNat < (sendAck sock.toNat s).socks.length := by
          rw [sendAck_socks]
          exact indexed_lt h
        have hnow : armed (sendAck sock.toNat s) = ⟨true, s.now⟩ := congrArg (Timer.mk true) (sendAck_now ..)
        have effect := (((Effect.refl [sock.toNat] s).sendAck (i := sock.toNat) rfl).setSock (i := sock.toNat) (by simp)
          { k with t2msl := ⟨true, s.now⟩ }).done .ok
        dsimp only at hwait
        rw [hnow, updSock, sent] at hwait
        exact ⟨_, hwait, rfl, sock_setSock_same _ _ _ hlt, effect.quiet, effect.link⟩
      case isFalse hf => rw [hwait, if_neg hf]; rfl

theorem negMss_of_legal {p : Params} (h : p.legal = true) (seg : Segment) : negMss p seg = clampedMss p seg := by
  have hle : p.mssMin.toNat ≤ p.mssMax.toNat := by
    simp only [Params.legal, Bool.and_eq_true, decide_eq_true_eq] at h
    obtain ⟨⟨⟨⟨⟨⟨-, hle⟩, -⟩, -⟩, -⟩, -⟩, -⟩ := h
    exact BitVec.le_def.mp hle
  unfold negMss clampedMss maxHalf minHalf
  dsimp only
  split
  · rw [if_neg (by omega)]
  · rfl

theorem sameRequest_iff {src dst : Word} {seg : Segment} {e : SynEntry} : sameRequest src dst seg e = true ↔
    e.srcAddr = .v4 src ∧ e.destAddr = .v4 dst ∧ e.srcPort = seg.srcPort := by
  simp [sameRequest, addrEq, and_assoc]

/-- Settles O44: CLOSED and LISTEN, path by path. -/
theorem closedAndListenResults : Obligations.ClosedAndListenResults := by
  unfold Obligations.ClosedAndListenResults
  intro s sock ifx src dst seg h hlegal k closed listen resets same e s1
  have hclosed : exec closed s = .next (tcpClosed ifx src dst seg s) := stateOp_of_indexed h _
  have hlisten : exec listen s = .next (tcpListen sock.toNat ifx src dst seg s) := stateOp_of_indexed h _
  have hreset : Outgoing.short ⟨ifx, dst, src, resetTo seg⟩ := reset_short ..
  rw [tcpClosed] at hclosed
  rw [tcpListen] at hlisten
  dsimp only at hlisten
  split
  case isTrue hr =>
    rw [if_pos hr] at hclosed hlisten
    exact ⟨hclosed, hlisten⟩
  case isFalse hr =>
    rw [if_neg hr] at hclosed hlisten
    refine ⟨sent_and_dropped hreset hclosed rfl, ?_⟩
    split
    case isTrue ha =>
      rw [if_pos ha] at hlisten
      exact sent_and_dropped hreset hlisten rfl
    case isFalse ha =>
      rw [if_neg ha] at hlisten
      split
      case isTrue hy =>
        rw [if_pos hy] at hlisten
        exact hlisten
      case isFalse hy =>
        rw [if_neg hy] at hlisten
        refine ⟨fun ⟨x, hx, hsame⟩ => ?_, fun hnew => ?_⟩
        · rw [if_pos (List.any_eq_true.mpr ⟨x, hx, sameRequest_iff.mpr hsame⟩)] at hlisten
          exact hlisten
        · have hany : ¬ (s.sock sock.toNat).synq.any (sameRequest src dst seg) = true := fun hany => by
            obtain ⟨x, hx, hsame⟩ := List.any_eq_true.mp hany
            exact hnew x hx (sameRequest_iff.mp hsame)
          have hindex : BitVec.ofNat 8 sock.toNat = sock := by simp
          rw [if_neg hany, negMss_of_legal hlegal, signal, hindex] at hlisten
          refine ⟨fun hroom => ?_, fun hfull => ?_⟩
          · rw [if_neg (Nat.not_le.mpr hroom)] at hlisten
            exact hlisten
          · rw [if_pos hfull] at hlisten
            exact hlisten

/-- Settles O45: SYN-SENT, path by path. -/
theorem synSentResults : Obligations.SynSentResults := by
  unfold Obligations.SynSentResults
  intro s sock ifx src dst seg h hlegal k op base
  have hexec : exec op s = .next (tcpSynSent sock.toNat ifx src dst seg s) := stateOp_of_indexed h _
  rw [tcpSynSent] at hexec
  split
  case isTrue hbad =>
    rw [if_pos hbad] at hexec
    split
    case isTrue hr => rw [hexec, if_pos hr]; rfl
    case isFalse hr =>
      rw [if_neg hr] at hexec
      exact sent_and_dropped (o := ⟨ifx, dst, src, resetTo seg⟩) (reset_short ..) hexec rfl
  case isFalse hbad =>
    rw [if_neg hbad] at hexec
    split
    case isTrue hr =>
      rw [hexec, if_pos hr, enterClosed_eq]
      split <;> rfl
    case isFalse hr =>
      rw [if_neg hr] at hexec
      split
      case isTrue hy => rw [hexec, if_pos hy]; rfl
      case isFalse hy =>
        rw [if_neg hy] at hexec
        have hlt : sock.toNat < (rtoAsked s).socks.length := by
          rw [rtoAsked_socks]
          exact indexed_lt h
        have hbase : synRecord s.par seg (rtoAnswer s) ((rtoAsked s).sock sock.toNat) = base := by
          rw [rtoAsked_sock, synRecord, negMss_of_legal hlegal]
          rfl
        have effect := Effect.rtoAsked s [sock.toNat]
        have hmem : sock.toNat ∈ [sock.toNat] := by simp
        split
        case isTrue ha =>
          have sent := (effect.setSock hmem { base with sndUna := seg.ack, state := .established }).sendAck
            (sock_setSock_same _ _ _ hlt)
          rw [if_pos ha, updSock_updSock _ hlt, hbase] at hexec
          refine ⟨_, hexec, rfl, (sent.done .ok).quiet, ?_, sent.link⟩
          exact (sock_congr _ _ (sendAck_socks ..) _).trans (sock_setSock_same _ _ _ hlt)
        case isFalse ha =>
          have sent := (effect.setSock hmem { base with state := .synRcvd }).sendSegment
            (sock_setSock_same _ _ _ hlt) (flagSYN ||| flagACK) base.iss
          rw [if_neg ha, updSock_updSock _ hlt, hbase] at hexec
          dsimp only at hexec
          rw [sock_setSock_same _ _ _ hlt] at hexec
          refine ⟨_, hexec, rfl, (sent.done .ok).quiet, ?_, sent.link⟩
          exact (sock_congr _ _ (sendSegment_socks ..) _).trans (sock_setSock_same _ _ _ hlt)

end Sys2Proof.Proofs
end

section
/-! The frame of the state operations, and the state each leaves its record in (44_tcp_fsm.md R223, R256, R257). -/

namespace Sys2Proof.Proofs

open Machine Claims

/-! What every operation keeps within. -/

/-- `u` is the state that asks the link: `s`, or `s` once a hook has answered. -/
def Asked (s u : State) : Prop := u = s ∨ u = rtoAsked s ∨ u = deferAsked s

theorem Asked.sameLink {s u : State} (h : Asked s u) : u.txq = s.txq ∧ u.ifs = s.ifs ∧ u.par = s.par := by
  rcases h with rfl | rfl | rfl <;> simp

/-- From `s` to `t` record `i` alone is written and stays in its state or reaches one of `a`, at most one cause is
counted, at most one event signalled, at most one segment handed to the link. -/
structure Bounded (a : List TcpState) (i : Nat) (s t : State) : Prop where
  effect : ∃ c evs u o, Asked s u ∧ Effect [i] c evs u o s t ∧ (evs = [] ∨ ∃ e, evs = [⟨BitVec.ofNat 8 i, e⟩]) ∧
    ∀ x, o = some x → x.short
  within : (t.sock i).state = (s.sock i).state ∨ (t.sock i).state ∈ a

section bounded
variable {a : List TcpState} {i : Nat} {s t : State}

/-- One segment at most, as far as every MTU is unset or carries the segment whole. -/
theorem Bounded.txq (h : Bounded a i s t) (hm : ∀ f ∈ s.ifs, f.mtu = 0 ∨ 68 ≤ f.mtu.toNat) :
    ∃ l, t.txq = s.txq ++ l ∧ l.length ≤ 1 := by
  obtain ⟨c, evs, u, o, hu, e, -, hshort⟩ := h.effect
  obtain ⟨htxq, hifs, hpar⟩ := hu.sameLink
  cases o with
  | none => exact ⟨[], by simpa [htxq] using e.link.txq, by simp⟩
  | some x =>
    obtain ⟨unset, whole⟩ := e.link
    have hmtu : (u.iface x.ifx.toNat).mtu = 0 ∨ 68 ≤ (u.iface x.ifx.toNat).mtu.toNat := by
      rw [iface_congr s u hifs hpar]
      unfold State.iface
      rcases Nat.lt_or_ge x.ifx.toNat s.ifs.length with hlt | hge
      · rw [List.getD_eq_getElem _ _ hlt]
        exact hm _ (List.getElem_mem hlt)
      · rw [List.getD_eq_default _ _ hge]
        exact .inl rfl
    rcases hmtu with h0 | h68
    · exact ⟨[], by simpa [htxq] using (unset h0).1, by simp⟩
    · have hlen : 20 + (wire u.par x.src x.dst x.seg).length ≤ (u.iface x.ifx.toNat).mtu.toNat := by
        have := hshort x rfl
        unfold Outgoing.short at this
        rw [wire_eq, length_segmentBytes]
        omega
      obtain ⟨-, -, hq⟩ := whole hlen
      split at hq
      · exact ⟨_, by rw [hq.1, htxq], by simp⟩
      · exact ⟨[], by simpa [htxq] using hq.1, by simp⟩

end bounded

/-! The state of the record. -/

theorem sock_setSock_or (s : State) (i : Nat) (k : Sock) :
    (setSock s i k).sock i = k ∨ (setSock s i k).sock i = s.sock i ∧ s.sock i = Sock.reset := by
  rcases Nat.lt_or_ge i s.socks.length with h | h
  · exact .inl (sock_setSock_same s i k h)
  · exact .inr (by simp [State.sock, h])

theorem sock_setSock_of {p : Sock → Prop} {s : State} {i : Nat} {k : Sock} (hk : p k) (h0 : p Sock.reset) :
    p ((setSock s i k).sock i) := by
  rcases sock_setSock_or s i k with e | ⟨e, e'⟩
  · rwa [e]
  · rwa [e, e']

/-- Record `i` is in state `st` or in one of `a`. -/
def StateIn (a : List TcpState) (i : Nat) (st : TcpState) (t : State) : Prop :=
  (t.sock i).state = st ∨ (t.sock i).state ∈ a

theorem stateIn_ordinary (a : List TcpState) (i : Nat) (st : TcpState) : Ordinary (StateIn a i st) :=
  ordinary_of_congr fun h _ hs => by rwa [StateIn, sock_congr _ _ hs]

section stateIn
variable {a : List TcpState} {i : Nat} {st : TcpState} {t : State}

theorem StateIn.set (h : StateIn a i st t) {k : Sock} (hk : k.state = st ∨ k.state ∈ a) :
    StateIn a i st (setSock t i k) := by
  rcases sock_setSock_or t i k with e | ⟨e, -⟩
  · rwa [StateIn, e]
  · rwa [StateIn, e]

theorem StateIn.upd (h : StateIn a i st t) {f : Sock → Sock} (hf : ∀ k, (f k).state = k.state) :
    StateIn a i st (updSock t i f) :=
  h.set (by rw [hf]; exact h)

theorem StateIn.enterClosed (h : StateIn a i st t) (ha : .closed ∈ a) (r : Bool) :
    StateIn a i st (enterClosed i r t) := by
  rw [enterClosed_eq]
  refine h.set (.inr ?_)
  unfold closedFrom
  split <;> exact ha

theorem StateIn.enterTimeWait (h : StateIn a i st t) (ha : .timeWait ∈ a) : StateIn a i st (enterTimeWait i t) :=
  h.set (.inr ha)

theorem moveContiguous_state (n : Nat) (k : Sock) : (moveContiguous n k).state = k.state := by
  induction n generalizing k with
  | zero => rfl
  | succ n ih =>
    unfold moveContiguous
    split
    · rfl
    · exact ih _

theorem deliveredRecord_state (p : Params) (seg : Segment) (k : Sock) : (deliveredRecord p seg k).state = k.state := by
  unfold deliveredRecord
  dsimp only
  split <;> exact moveContiguous_state ..

theorem StateIn.deliver (h : StateIn a i st t) (seg : Segment) : StateIn a i st (deliver i seg t) := by
  have hk := h.set (k := deliveredRecord t.par seg (t.sock i)) (by rw [deliveredRecord_state]; exact h)
  unfold Machine.deliver
  split
  · exact h
  · dsimp only
    split
    · exact hk
    · exact (stateIn_ordinary a i st).signal hk ..

theorem StateIn.finHandle (h : StateIn a i st t) (seg : Segment) {post : TcpState} (hp : post ∈ a) :
    StateIn a i st (finHandle i seg post t) := by
  unfold Machine.finHandle
  split
  · have passed := h.upd (f := fun k => { k with rcvNxt := k.rcvNxt + 1 }) fun _ => rfl
    have sent := ((stateIn_ordinary a i st).sendAck passed i).upd
      (f := fun k => { k with ackPending := false }) fun _ => rfl
    dsimp only
    split
    · rename_i e
      exact sent.enterTimeWait (e ▸ hp)
    · exact sent.set (.inr hp)
  · exact h

theorem StateIn.ackFlush (h : StateIn a i st t) : StateIn a i st (ackFlush i t) := by
  have asked := (stateIn_ordinary a i st).deferAsked h
  unfold Machine.ackFlush
  split
  · split
    · exact asked
    · exact ((stateIn_ordinary a i st).sendAck asked i).upd fun _ => rfl
  · exact h

end stateIn

/-! Before an operation ends: nothing has been counted, signalled or handed over yet. -/

/-- From `s` to `t` record `i` alone is written, and stays in its state or reaches one of `a`. -/
structure Silent (a : List TcpState) (i : Nat) (s t : State) : Prop where
  effect : Effect [i] none [] s none s t
  within : StateIn a i (s.sock i).state t

section steps
variable {a : List TcpState} {i : Nat} {ifx : Byte} {src dst : Word} {seg : Segment} {s t : State}
  {evs : List EvEntry}

theorem Effect.enterClosed {c : Option Cause} {u : State} {o : Option Outgoing} (h : Effect [i] c evs u o s t)
    (r : Bool) : Effect [i] c evs u o s (enterClosed i r t) := by
  rw [enterClosed_eq]
  exact h.setSock (by simp) _

theorem Silent.refl (a : List TcpState) (i : Nat) (s : State) : Silent a i s s := ⟨.refl _ s, .inl rfl⟩

theorem Silent.set (h : Silent a i s t) {k : Sock} (hk : k.state = (s.sock i).state ∨ k.state ∈ a) :
    Silent a i s (setSock t i k) :=
  ⟨h.effect.setSock (by simp) k, h.within.set hk⟩

theorem Silent.enterClosed (h : Silent a i s t) (ha : .closed ∈ a) (r : Bool) : Silent a i s (enterClosed i r t) :=
  ⟨h.effect.enterClosed r, h.within.enterClosed ha r⟩

/-! The ways in which it ends. -/

/-- With no event signalled. -/
theorem Effect.bounded {c : Option Cause} {u : State} {o : Option Outgoing} (h : Effect [i] c [] u o s t)
    (hu : Asked s u) (ho : ∀ x, o = some x → x.short) (hw : StateIn a i (s.sock i).state t) : Bounded a i s t :=
  ⟨⟨c, [], u, o, hu, h, .inl rfl, ho⟩, hw⟩

theorem Silent.done (h : Silent a i s t) (c : Cause) : Bounded a i s (done t c) :=
  (h.effect.done c).bounded (.inl rfl) (by simp) ((stateIn_ordinary ..).done h.within c)

theorem Silent.drop (h : Silent a i s t) {c : Cause} (hc : ofSendPath c = false) : Bounded a i s (drop t c) :=
  (h.effect.drop hc).bounded (.inl rfl) (by simp) ((stateIn_ordinary ..).drop h.within c)

theorem Silent.ackAndDrop (h : Silent a i s t) {c : Cause} (hc : ofSendPath c = false) :
    Bounded a i s (Machine.drop (sendAck i t) c) :=
  ((h.effect.sendAck rfl).drop hc).bounded (.inl rfl) (by simpa using ackFrom_short ..)
    ((stateIn_ordinary ..).drop ((stateIn_ordinary ..).sendAck h.within i) c)

theorem Silent.resetAndDrop (h : Silent a i s t) (ifx : Byte) (src dst : Word) (seg : Segment) {c : Cause}
    (hc : ofSendPath c = false) : Bounded a i s (Machine.drop (sendReset ifx src dst seg t) c) :=
  ((h.effect.sendReset ..).drop hc).bounded (.inl rfl) (by simpa using reset_short ..)
    ((stateIn_ordinary ..).drop ((stateIn_ordinary ..).sendReset h.within ..) c)

/-! The shared steps. -/

/-- The three checks: the operation goes on unchanged, or has ended within bounds (44_tcp_fsm.md R237). -/
theorem std3_cases (ha : .closed ∈ a) (h : Silent a i s t) (ifx : Byte) (src dst : Word) (seg : Segment) :
    std3 i ifx src dst seg t = .go t ∨ ∃ u, std3 i ifx src dst seg t = .ended u ∧ Bounded a i s u := by
  by_cases hw : inWindow (t.sock i) seg
  · cases hr : has seg flagRST with
    | true =>
      refine .inr ⟨_, std3_of_reset hw hr, ?_⟩
      rw [← enterClosed_eq]
      exact (h.enterClosed ha true).done _
    | false =>
      rw [std3_of_not_reset hw hr]
      unfold synCheck
      split
      · refine .inr ⟨_, rfl, ?_⟩
        split
        · have ordinary := stateIn_ordinary a i (s.sock i).state
          exact (((h.effect.sendReset ..).enterClosed true).drop rfl).bounded (.inl rfl) (by simpa using reset_short ..)
            (ordinary.drop ((ordinary.sendReset h.within ..).enterClosed ha true) _)
        · exact h.resetAndDrop ifx src dst seg rfl
      · exact .inl rfl
  · refine .inr ⟨_, std3_of_not_inWindow hw, ?_⟩
    split
    · exact h.drop rfl
    · exact h.ackAndDrop rfl

/-- The four checks: the operation goes on with the send fields of its record written, or has ended within bounds. -/
theorem std4_cases (ha : .closed ∈ a) (h : Silent a i s t) (ifx : Byte) (src dst : Word) (seg : Segment) :
    std4 i ifx src dst seg t = .go (setSock t i (afterAck seg (t.sock i))) ∨
      ∃ u, std4 i ifx src dst seg t = .ended u ∧ Bounded a i s u := by
  rw [std4]
  rcases std3_cases ha h ifx src dst seg with e | ⟨u, e, hb⟩
  · rw [e, Flow.andThen]
    cases hack : has seg flagACK with
    | false => exact .inr ⟨_, ackProc_of_missing hack, h.drop rfl⟩
    | true =>
      cases hb : seqGT seg.ack (t.sock i).sndNxt with
      | false => exact .inl (ackProc_of_good hack hb)
      | true => exact .inr ⟨_, ackProc_of_beyond hack hb, h.ackAndDrop rfl⟩
  · rw [e]
    exact .inr ⟨u, rfl, hb⟩

theorem afterAck_state (k : Sock) : (afterAck seg k).state = k.state := by
  unfold afterAck
  split <;> rfl

/-- Payload is delivered with at most one event (44_tcp_fsm.md R229). -/
theorem Effect.deliver (h : Effect [i] none [] s none s t) (seg : Segment) :
    ∃ evs, (evs = [] ∨ ∃ e, evs = [⟨BitVec.ofNat 8 i, e⟩]) ∧ Effect [i] none evs s none s (deliver i seg t) := by
  have hi : i ∈ [i] := by simp
  unfold Machine.deliver
  split
  · exact ⟨[], .inl rfl, h⟩
  · dsimp only
    split
    · exact ⟨[], .inl rfl, h.setSock hi _⟩
    · exact ⟨_, .inr ⟨_, rfl⟩, (h.setSock hi _).signal i .dataReady⟩

/-- A FIN that is taken is acknowledged with one segment, and no acknowledgement is owed then (44_tcp_fsm.md R230). -/
theorem Effect.finHandle (h : Effect [i] none evs s none s t) (seg : Segment) (post : TcpState) :
    Effect [i] none evs s none s (finHandle i seg post t) ∨
    ∃ x, x.short ∧ Effect [i] none evs s (some x) s (finHandle i seg post t) ∧
      ((finHandle i seg post t).sock i).ackPending = false := by
  have hi : i ∈ [i] := by simp
  unfold Machine.finHandle
  split
  · dsimp only
    generalize hu : Machine.updSock t i (fun k => { k with rcvNxt := k.rcvNxt + 1 }) = u
    have sent := (hu ▸ h.updSock hi _ : Effect [i] none evs s none s u).sendAck (i := i) rfl
    have paid := sent.updSock hi fun k => { k with ackPending := false }
    have owes : ((Machine.updSock (Machine.sendAck i u) i fun k => { k with ackPending := false }).sock i).ackPending =
        false := sock_setSock_of (p := fun k => k.ackPending = false) rfl rfl
    generalize Machine.updSock (Machine.sendAck i u) i (fun k => { k with ackPending := false }) = v at paid owes ⊢
    refine .inr ⟨ackFrom s.par (u.sock i), ackFrom_short .., ?_⟩
    split
    · exact ⟨paid.setSock hi _, sock_setSock_of (p := fun k => k.ackPending = false) owes rfl⟩
    · exact ⟨paid.setSock hi _, sock_setSock_of (p := fun k => k.ackPending = false) owes rfl⟩
  · exact .inl h

theorem ackFlush_of_paid (h : (t.sock i).ackPending = false) : ackFlush i t = t := by
  rw [ackFlush, if_neg (by simp [h])]

/-- An acknowledgement that is owed is deferred or sent (44_tcp_fsm.md R231). -/
theorem Effect.ackFlush (h : Effect [i] none evs s none s t) :
    ∃ u o, Asked s u ∧ Effect [i] none evs u o s (ackFlush i t) ∧ ∀ x, o = some x → x.short := by
  unfold Machine.ackFlush
  split
  · split
    · exact ⟨_, _, .inr (.inr rfl), h.deferAsked, by simp⟩
    · exact ⟨_, _, .inr (.inr rfl), (h.deferAsked.sendAck rfl).updSock (by simp) _, by simpa using ackFrom_short ..⟩
  · exact ⟨_, _, .inl rfl, h, by simp⟩

/-- The work of the data operations behind the checks is within bounds. -/
theorem Silent.takePayload {u : State} (h : Silent a i s u) (seg : Segment) {f : State → State}
    (hf : ∀ v, f v = v ∨ ∃ post ∈ a, f v = finHandle i seg post v) :
    Bounded a i s (Machine.done (ackFlush i (f (deliver i seg u))) .ok) := by
  have ordinary := stateIn_ordinary a i (s.sock i).state
  have within := h.within.deliver seg
  obtain ⟨evs, hevs, delivered⟩ := h.effect.deliver seg
  have flushed {v : State} (hv : Effect [i] none evs s none s v) (hvs : StateIn a i (s.sock i).state v) :
      Bounded a i s (Machine.done (ackFlush i v) .ok) := by
    obtain ⟨w, o, hw, e, ho⟩ := hv.ackFlush
    exact ⟨⟨none, evs, w, o, hw, e.done _, hevs, ho⟩, ordinary.done hvs.ackFlush _⟩
  rcases hf (deliver i seg u) with e | ⟨post, hpost, e⟩
  · rw [e]
    exact flushed delivered within
  · rw [e]
    rcases delivered.finHandle seg post with unsent | ⟨x, hx, sent, paid⟩
    · exact flushed unsent (within.finHandle seg hpost)
    · rw [ackFlush_of_paid paid]
      exact ⟨⟨none, evs, s, some x, .inl rfl, sent.done _, hevs, by simpa using hx⟩,
        ordinary.done (within.finHandle seg hpost) _⟩

theorem bounded_of_std3 (ha : .closed ∈ a) {k : State → Flow} (hk : Bounded a i s (k s).state) :
    Bounded a i s ((std3 i ifx src dst seg s).andThen k).state := by
  rcases std3_cases ha (.refl a i s) ifx src dst seg with e | ⟨t, e, hb⟩
  · rwa [e]
  · rwa [e]

theorem bounded_of_std4 (ha : .closed ∈ a) (h : Silent a i s t) {k : State → Flow}
    (hk : ∀ u, Silent a i s u → Bounded a i s (k u).state) :
    Bounded a i s ((std4 i ifx src dst seg t).andThen k).state := by
  rcases std4_cases ha h ifx src dst seg with e | ⟨t, e, hb⟩
  · rw [e]
    refine hk _ (h.set ?_)
    rw [afterAck_state]
    exact h.within
  · rwa [e]

end steps

/-! The operations. -/

section operations
variable (i : Nat) (ifx : Byte) (src dst : Word) (seg : Segment) (s : State)

theorem tcpClosed_bounded : Bounded [] i s (tcpClosed ifx src dst seg s) := by
  have h := Silent.refl [] i s
  unfold tcpClosed
  split
  · exact h.drop rfl
  · exact h.resetAndDrop ifx src dst seg rfl

theorem tcpListen_bounded : Bounded [] i s (tcpListen i ifx src dst seg s) := by
  have h := Silent.refl [] i s
  unfold tcpListen
  dsimp only
  split
  · exact h.drop rfl
  · split
    · exact h.resetAndDrop ifx src dst seg rfl
    · split
      · exact h.drop rfl
      · split
        · exact h.drop rfl
        · have hi : i ∈ [i] := by simp
          have ordinary := stateIn_ordinary [] i (s.sock i).state
          have signalled {c : Option Cause} {u : State} (e : Effect [i] c [] s none s u)
              (hw : StateIn [] i (s.sock i).state u) : Bounded [] i s (done (signal u i .connPending) .ok) :=
            ⟨⟨c, _, s, none, .inl rfl, (e.signal i .connPending).done _, .inr ⟨_, rfl⟩, by simp⟩,
              ordinary.done (ordinary.signal hw ..) _⟩
          split
          · exact signalled ((h.effect.updSock hi _).count rfl) (ordinary.count (h.within.upd (by intro; rfl)) _)
          · exact signalled (h.effect.updSock hi _) (h.within.upd (by intro; rfl))

theorem tcpSynSent_bounded :
    Bounded [.established, .synRcvd, .closed] i s (tcpSynSent i ifx src dst seg s) := by
  have h := Silent.refl [.established, .synRcvd, .closed] i s
  unfold tcpSynSent
  split
  · split
    · exact h.drop rfl
    · exact h.resetAndDrop ifx src dst seg rfl
  · split
    · split
      · exact (h.enterClosed (by simp) true).done _
      · exact h.drop rfl
    · split
      · exact h.drop rfl
      · have hi : i ∈ [i] := by simp
        have ordinary := stateIn_ordinary [.established, .synRcvd, .closed] i (s.sock i).state
        have asked := (Effect.rtoAsked s [i]).updSock hi (synRecord s.par seg (rtoAnswer s))
        have within := (ordinary.rtoAsked h.within).upd (f := synRecord s.par seg (rtoAnswer s)) fun _ => rfl
        dsimp only
        split
        · exact (((asked.updSock hi _).sendAck rfl).done _).bounded (.inr (.inl rfl)) (by simpa using ackFrom_short ..)
            (ordinary.done (ordinary.sendAck (within.set (.inr (by simp))) i) _)
        · exact (((asked.updSock hi _).sendSegment rfl ..).done _).bounded (.inr (.inl rfl))
            (by simpa using fromRecord_short ..)
            (ordinary.done (ordinary.sendSegment (within.set (.inr (by simp))) ..) _)

variable {i ifx src dst seg s} in
/-- ESTABLISHED, on the record as it is or as SYN-RECEIVED has opened it (44_tcp_fsm.md R243, R244). -/
theorem tcpEstablished_bounded {a : List TcpState} (ha : .closed ∈ a) (hp : .closeWait ∈ a) {t : State}
    (h : Silent a i s t) : Bounded a i s (tcpEstablished i ifx src dst seg t) :=
  bounded_of_std4 ha h fun _ g => g.takePayload seg fun _ => .inr ⟨.closeWait, hp, rfl⟩

/-- SYN-RECEIVED, with what ESTABLISHED does on the record it opens (44_tcp_fsm.md R243). -/
theorem tcpSynRcvd_bounded : Bounded [.established, .closeWait, .closed] i s (tcpSynRcvd i ifx src dst seg s) := by
  have h := Silent.refl [.established, .closeWait, .closed] i s
  refine bounded_of_std3 (by simp) ?_
  split
  · exact h.drop rfl
  · split
    · exact h.resetAndDrop ifx src dst seg rfl
    · exact tcpEstablished_bounded (by simp) (by simp) (h.set (.inr (by simp [openedRecord])))

theorem tcpCloseWait_bounded : Bounded [.closed] i s (tcpCloseWait i ifx src dst seg s) :=
  bounded_of_std4 (by simp) (.refl _ i s) fun _ g => g.takePayload seg (f := id) fun _ => .inl rfl

theorem tcpLastAck_bounded : Bounded [.closed] i s (tcpLastAck i ifx src dst seg s) := by
  have h := Silent.refl [.closed] i s
  refine bounded_of_std3 (by simp) ?_
  split
  · exact (h.enterClosed (by simp) false).done _
  · exact h.drop rfl

theorem tcpFinWait1_bounded :
    Bounded [.finWait2, .closing, .timeWait, .closed] i s (tcpFinWait1 i ifx src dst seg s) := by
  have post (k : Sock) : postFin k ∈ [TcpState.finWait2, .closing, .timeWait, .closed] := by
    unfold postFin
    split <;> simp
  refine bounded_of_std4 (by simp) (.refl _ i s) fun u g => ?_
  have acked : Silent [.finWait2, .closing, .timeWait, .closed] i s (finAcked i seg u) := by
    unfold finAcked
    split
    · exact g.set (.inr (by simp))
    · exact g
  exact acked.takePayload (f := fun v => finHandle i seg (postFin (v.sock i)) v) seg fun v => .inr ⟨_, post _, rfl⟩

theorem tcpFinWait2_bounded : Bounded [.timeWait, .closed] i s (tcpFinWait2 i ifx src dst seg s) :=
  bounded_of_std4 (by simp) (.refl _ i s) fun _ g => g.takePayload seg fun _ => .inr ⟨.timeWait, by simp, rfl⟩

theorem tcpClosing_bounded : Bounded [.timeWait, .closed] i s (tcpClosing i ifx src dst seg s) := by
  refine bounded_of_std4 (by simp) (.refl _ i s) fun u g => ?_
  split
  · exact (g.set (.inr (by simp))).done _
  · exact g.drop rfl

theorem tcpTimeWait_bounded : Bounded [.closed] i s (tcpTimeWait i seg s) := by
  have h := Silent.refl [.closed] i s
  unfold tcpTimeWait
  split
  · exact (h.enterClosed (by simp) true).done _
  · split
    · have ordinary := stateIn_ordinary [.closed] i (s.sock i).state
      exact (((h.effect.sendAck rfl).updSock (by simp) _).done _).bounded (.inl rfl) (by simpa using ackFrom_short ..)
        (ordinary.done ((ordinary.sendAck h.within i).upd (by intro; rfl)) _)
    · exact h.drop rfl

end operations

/-- A state operation that answers a next state keeps within bounds. -/
theorem stateOps_bounded {s t : State} {sock ifx : Byte} {src dst : Word} {seg : Segment} {op : Instr}
    (hop : op ∈ stateOps sock ifx src dst seg) (e : exec op s = .next t) : ∃ a, Bounded a sock.toNat s t := by
  simp only [stateOps, synchronizedOps, List.cons_append, List.nil_append, List.mem_cons, List.not_mem_nil,
    or_false] at hop
  rcases hop with rfl | rfl | rfl | rfl | rfl | rfl | rfl | rfl | rfl | rfl | rfl
  · exact ⟨_, stateOp_next e ▸ tcpClosed_bounded ..⟩
  · exact ⟨_, stateOp_next e ▸ tcpListen_bounded ..⟩
  · exact ⟨_, stateOp_next e ▸ tcpSynSent_bounded ..⟩
  · exact ⟨_, stateOp_next e ▸ tcpTimeWait_bounded ..⟩
  · exact ⟨_, stateOp_next e ▸ tcpSynRcvd_bounded ..⟩
  · exact ⟨[.closeWait, .closed], stateOp_next e ▸ tcpEstablished_bounded (by simp) (by simp) (.refl _ _ s)⟩
  · exact ⟨_, stateOp_next e ▸ tcpCloseWait_bounded ..⟩
  · exact ⟨_, stateOp_next e ▸ tcpLastAck_bounded ..⟩
  · exact ⟨_, stateOp_next e ▸ tcpFinWait1_bounded ..⟩
  · exact ⟨_, stateOp_next e ▸ tcpFinWait2_bounded ..⟩
  · exact ⟨_, stateOp_next e ▸ tcpClosing_bounded ..⟩

/-- Settles O53: what every state operation keeps within, read as frame, events and packets. -/
theorem stateOperationsFrame : Obligations.StateOperationsFrame := by
  unfold Obligations.StateOperationsFrame
  intro s t sock ifx src dst seg op hop e
  obtain ⟨a, hb⟩ := stateOps_bounded hop e
  obtain ⟨c, evs, u, o, -, effect, hevs, -⟩ := hb.effect
  refine ⟨⟨c, effect.frame⟩, ?_, hb.txq⟩
  rw [effect.events]
  rcases hevs with rfl | ⟨ev, rfl⟩
  · exact .inl (List.append_nil _)
  · exact .inr ⟨ev, by simp⟩

end Sys2Proof.Proofs
end

section
/-! The transition table: between which states a step of the host moves a record (44_tcp_fsm.md R223, R256). -/

namespace Sys2Proof.Proofs

open Machine Claims

theorem transition_refl (a : TcpState) : transition a a = true := by cases a <;> rfl

theorem transition_closed (a : TcpState) : transition a .closed = true := by cases a <;> rfl

/-- Every record of `t` is in a state that the table joins to its state in `s`. -/
structure Moved (s t : State) : Prop where
  record : ∀ j, transition (s.sock j).state (t.sock j).state = true

section moved
variable {s t u : State} {i : Nat}

theorem Moved.of_socks (h : t.socks = s.socks) : Moved s t where
  record j := by
    rw [sock_congr s t h]
    exact transition_refl _

theorem Moved.of_same (h : Moved s u) (hs : t.socks = u.socks) : Moved s t where
  record j := sock_congr u t hs j ▸ h.record j

theorem Moved.releaseSlot (h : Moved s t) (i j : Nat) : Moved s (releaseSlot t i j) := h.of_same rfl

theorem moved_ordinary (s : State) : Ordinary (Moved s) := ordinary_of_congr fun h _ hs => ⟨fun j => by
  rw [sock_congr _ _ hs]
  exact h.record j⟩

theorem Moved.of_states (h : Moved u t) (hs : ∀ j, (u.sock j).state = (s.sock j).state) : Moved s t where
  record j := hs j ▸ h.record j

theorem Moved.set (h : Moved s t) {k : Sock} (hk : transition (s.sock i).state k.state = true) :
    Moved s (setSock t i k) where
  record j := by
    by_cases hj : j = i
    · subst hj
      rcases sock_setSock_or t j k with e | ⟨e, -⟩
      · rwa [e]
      · rw [e]
        exact h.record j
    · rw [sock_setSock_other t i j k hj]
      exact h.record j

theorem Moved.upd (h : Moved s t) {f : Sock → Sock} (hf : ∀ k, (f k).state = k.state) : Moved s (updSock t i f) :=
  h.set (by rw [hf]; exact h.record i)

/-- One write of a record is all that is done to them. -/
theorem Moved.of_write {k : Sock} (hw : t.socks = s.socks.set i k) (hk : transition (s.sock i).state k.state = true) :
    Moved s t :=
  (Moved.set (.of_socks rfl) hk).of_same hw

theorem Moved.enterClosed (h : Moved s t) (r : Bool) : Moved s (enterClosed i r t) := by
  have closed : (closedFrom r (t.sock i)).state = .closed := by
    unfold closedFrom
    split <;> rfl
  rw [enterClosed_eq]
  refine h.set ?_
  rw [closed]
  exact transition_closed _

theorem Moved.of_bounded {a : List TcpState} (h : Bounded a i s t)
    (ha : ∀ b ∈ a, transition (s.sock i).state b = true) : Moved s t where
  record j := by
    obtain ⟨c, evs, u, o, -, effect, -⟩ := h.effect
    by_cases hj : j = i
    · subst hj
      rcases h.within with e | hin
      · rw [e]
        exact transition_refl _
      · exact ha _ hin
    · rw [effect.others j (by simpa using hj)]
      exact transition_refl _

end moved

/-! The state machine. -/

/-- The operation a record's state selects moves that record along the table (44_tcp_fsm.md R223, R256). -/
theorem tcpDispatch_moved (i : Nat) (ifx : Byte) (src dst : Word) (seg : Segment) (s : State) :
    Moved s (tcpDispatch i ifx src dst seg s) := by
  unfold tcpDispatch
  split
  case h_1 => exact .of_bounded (tcpClosed_bounded i ..) (by simp)
  case h_2 => exact .of_bounded (tcpListen_bounded i ..) (by simp)
  case h_3 e => exact .of_bounded (tcpSynSent_bounded i ..) (by simp [e, transition])
  case h_4 e => exact .of_bounded (tcpSynRcvd_bounded i ..) (by simp [e, transition])
  case h_5 e =>
    exact .of_bounded (a := [.closeWait, .closed])
      (tcpEstablished_bounded (by simp) (by simp) (Silent.refl _ i s)) (by simp [e, transition])
  case h_6 e => exact .of_bounded (tcpCloseWait_bounded i ..) (by simp [e, transition])
  case h_7 e => exact .of_bounded (tcpLastAck_bounded i ..) (by simp [e, transition])
  case h_8 e => exact .of_bounded (tcpFinWait1_bounded i ..) (by simp [e, transition])
  case h_9 e => exact .of_bounded (tcpFinWait2_bounded i ..) (by simp [e, transition])
  case h_10 e => exact .of_bounded (tcpClosing_bounded i ..) (by simp [e, transition])
  case h_11 e => exact .of_bounded (tcpTimeWait_bounded i ..) (by simp [e, transition])

section delivery
variable {s t : State} (h : t.socks = s.socks) (ifx : Byte)
include h

theorem receiveTcp_moved (src dst : Word) (b : Bytes) : Moved s (receiveTcp ifx src dst b t) := by
  have looked (o : Option Nat) : (lookupEnd (setR0 t 0xFFFFFFFF#32) o).socks = s.socks := by cases o <;> exact h
  unfold receiveTcp
  dsimp only
  split
  · exact .of_socks h
  · split
    · exact .of_socks h
    · split
      · exact .of_socks h
      · split
        · exact .of_socks h
        · exact (moved_ordinary s).setR0 ((tcpDispatch_moved ..).of_states fun j =>
            congrArg Sock.state (sock_congr s _ (looked _) j)) _

theorem demux_moved (d : Bytes) : Moved s (demux ifx d t) := by
  have tcp := receiveTcp_moved h ifx (srcOf d) (dstOf d) (payloadOf d)
  unfold demux
  split
  · unfold demuxTcp
    dsimp only
    split
    · exact (moved_ordinary s).raiseIcmp tcp ..
    · exact tcp
  · split
    · exact .of_socks h
    · split
      · exact .of_socks h
      · split
        · exact .of_socks h
        · exact .of_socks h

theorem reassemble_moved (d : Bytes) : Moved s (reassemble ifx d t) := by
  unfold reassemble
  split
  · exact .of_socks h
  · split
    · exact .of_socks h
    · dsimp only
      split
      · exact .of_socks h
      · split
        · exact .of_socks h
        · exact (demux_moved (by exact h) ifx _).releaseSlot ..

theorem admitPacket_moved (p : Bytes) : Moved s (admitPacket ifx p t) := by
  have whole (d : Bytes) : Moved s (admitWhole ifx d t) := by
    unfold admitWhole
    split
    · exact .of_socks h
    · split
      · exact reassemble_moved h ifx d
      · exact demux_moved h ifx d
  have trimmed (d : Bytes) : Moved s (admitTrimmed ifx d t) := by
    unfold admitTrimmed
    dsimp only
    split
    · exact .of_socks h
    · split
      · exact whole d
      · exact .of_socks h
      · exact .of_socks h
      · exact .of_socks h
  unfold admitPacket
  split
  · exact .of_socks h
  · split
    · exact .of_socks h
    · split
      · exact .of_socks h
      · split
        · exact .of_socks h
        · split
          · exact .of_socks h
          · exact trimmed _

end delivery

/-! The ticks. -/

theorem Moved.tickSock {s t : State} (h : Moved s t) (i : Nat) : Moved s (tickSock i t) := by
  unfold Machine.tickSock
  dsimp only
  split
  · exact h.enterClosed false
  · split
    · exact ((moved_ordinary s).sendAck h i).upd fun _ => rfl
    · exact h

theorem Moved.fragTick {s t : State} (h : Moved s t) (i : Nat) : Moved s (fragTick i t) :=
  (moved_ordinary s).fragTick h (fun hu => (moved_ordinary s).evict (fun hv _ _ => hv.of_same rfl) hu) i

theorem Moved.fragTicks {s t : State} (h : Moved s t) (n i : Nat) : Moved s (fragTicks n i t) := by
  induction n generalizing i t with
  | zero => exact h
  | succ n ih => exact ih (h.fragTick i) _

/-! The socket operations. -/

section sockets
variable (i : Nat) (s : State)

theorem sockOpen_moved (ty : SockType) : Moved s (sockOpen ty s) := by
  unfold sockOpen
  split
  · exact .of_socks rfl
  · exact .of_write rfl (transition_closed _)

theorem sockBind_moved (port : Half) : Moved s (sockBind i port s) := by
  unfold sockBind
  dsimp only
  split
  · exact .of_socks rfl
  · exact .of_write rfl (transition_refl _)

theorem state_of_bound {k : Sock} (h : ¬ k.bound = false) : k.state = .closed := by
  rw [Bool.not_eq_false] at h
  unfold Sock.bound at h
  simp only [Bool.and_eq_true, decide_eq_true_eq] at h
  obtain ⟨⟨-, hclosed⟩, -⟩ := h
  exact hclosed

theorem sockListen_moved (n : Half) : Moved s (sockListen i n s) := by
  unfold sockListen
  dsimp only
  split
  · exact .of_socks rfl
  · rename_i hb
    refine .of_write rfl ?_
    rw [state_of_bound hb]
    rfl

theorem sockConnect_moved (port : Half) : Moved s (sockConnect i port s) := by
  unfold sockConnect
  dsimp only
  split
  · exact .of_socks rfl
  · rename_i hb
    split
    · exact .of_socks rfl
    · have ordinary := moved_ordinary s
      refine ordinary.done (ordinary.setR0 (ordinary.sendSegment (Moved.set (.of_socks rfl) ?_) ..) _) _
      rw [state_of_bound hb]
      rfl

theorem sockAccept_moved (hs : ∀ j, sockInv s.par (s.sock j)) : Moved s (sockAccept i s) := by
  unfold sockAccept
  dsimp only
  split
  · exact .of_socks rfl
  · split
    · exact .of_socks rfl
    · split
      · exact .of_socks rfl
      · rename_i n hn
        have free : (s.sock n).state = .closed := by
          obtain ⟨-, hty, -⟩ := freeSock_eq_some s n hn
          obtain ⟨-, hclosed, -⟩ := hs n
          exact hclosed (by simp [hty])
        have ordinary := moved_ordinary s
        have asked : Moved s (rtoAsked s) := .of_socks (rtoAsked_socks s)
        refine ordinary.done (ordinary.setR0
          (ordinary.sendSegment ((asked.set (by exact transition_refl _)).set ?_) ..) _) _
        rw [free]
        rfl

variable {i s} in
theorem Moved.sendFin {st : TcpState} (h : transition (s.sock i).state st = true) : Moved s (sendFin i st s) := by
  unfold Machine.sendFin
  exact ((moved_ordinary s).sendSegment (Moved.set (k := { s.sock i with state := st }) (.of_socks rfl) h) ..).upd
    fun _ => rfl

theorem sockShut_moved : Moved s (sockShut i s) := by
  have ordinary := moved_ordinary s
  have shut {st : TcpState} (h : transition (s.sock i).state st = true) :
      Moved s (done (setR0 (updSock (sendFin i st s) i fun k => { k with ackPending := false }) 0) .ok) :=
    ordinary.done (ordinary.setR0 ((Moved.sendFin h).upd (by intro; rfl)) _) _
  unfold sockShut
  dsimp only
  split
  · exact .of_socks rfl
  · split
    case h_1 e => exact shut (by rw [e]; rfl)
    case h_2 e => exact shut (by rw [e]; rfl)
    all_goals exact .of_socks rfl

theorem letGo_moved : Moved s (letGo i s) := by
  unfold letGo
  dsimp only
  split
  · exact .of_write rfl (transition_closed _)
  · split
    case h_4 e => exact .sendFin (by rw [e]; rfl)
    case h_5 e => exact .sendFin (by rw [e]; rfl)
    case h_6 e => exact .sendFin (by rw [e]; rfl)
    case h_1 | h_2 | h_3 => exact .of_write rfl (transition_closed _)
    all_goals exact .of_socks rfl

theorem sockClose_moved : Moved s (sockClose i s) := by
  unfold sockClose
  dsimp only
  split
  · exact .of_socks rfl
  · refine (moved_ordinary s).done ((moved_ordinary s).setR0 ((letGo_moved ..).of_states fun j => ?_) _) _
    by_cases hj : j = i
    · subst hj
      rcases sock_setSock_or s j { s.sock j with owned := false } with e | ⟨e, -⟩ <;> rw [e]
    · rw [sock_setSock_other s i j _ hj]

theorem sockRecv_moved (n : Half) : Moved s (sockRecv i n s) := by
  unfold sockRecv
  dsimp only
  split
  · exact .of_socks rfl
  · split
    · exact .of_socks rfl
    · exact .of_write rfl (transition_refl _)

end sockets

/-! One step. -/

section command
variable {s t : State}

/-- A command moves the records as its body does on the operands it has tested. -/
theorem runCommand_moved {l : Bool} {rs : List (Fin 8)} {g : Bool} {b : State → State}
    (hb : Moved (setR0 s 0) (b (setR0 s 0))) : Moved s (runCommand s l rs g b) :=
  (moved_ordinary s).runCommand (.of_socks rfl) fun _ _ => hb.of_states fun _ => rfl

/-- No command moves a record but along the table, where the records are sound. -/
theorem command_moved (hs : ∀ j, sockInv s.par (s.sock j)) {i : Instr} (hc : i.isCommand = true)
    (e : exec i s = .next t) : Moved s t := by
  have ordinary := moved_ordinary s
  have here : Moved s s := .of_socks rfl
  have same (u : State) : Moved u u := .of_socks rfl
  cases i with
  | nop => cases e; exact runCommand_moved (.of_socks rfl)
  | csum => cases e; exact runCommand_moved (.of_socks rfl)
  | csumx => cases e; exact runCommand_moved (.of_socks rfl)
  | csumul => cases e; exact runCommand_moved (.of_socks rfl)
  | iprx => cases e; exact runCommand_moved (admitPacket_moved rfl ..)
  | iptx => cases e; exact runCommand_moved ((moved_ordinary _).sendIp (same _) ..)
  | fragtick => cases e; exact runCommand_moved ((same _).fragTick _)
  | lookupt => cases e; exact runCommand_moved ((moved_ordinary _).lookupEnd (same _) _)
  | lookupu => cases e; exact runCommand_moved ((moved_ordinary _).lookupEnd (same _) _)
  | tcptick => cases e; exact runCommand_moved ((moved_ordinary _).tcpTick (same _) fun hu i => hu.tickSock i)
  | lock => exact ordinary.execLock (fun hu _ => hu.of_same rfl) here e
  | unlock => exact ordinary.execUnlock (fun hu _ => hu.of_same rfl) here e
  | tick =>
    cases e
    refine runCommand_moved ?_
    have ordinary := moved_ordinary (setR0 s 0)
    have ticked : Moved (setR0 s 0) (advanceNow (setR0 s 0)) := .of_socks rfl
    exact ordinary.done (ordinary.setR0 (ordinary.tcpTick (ticked.fragTicks ..) fun hu i => hu.tickSock i) _) _
  | crrd =>
    cases e
    refine runCommand_moved ?_
    split
    · exact .of_socks rfl
    · exact same _
  | crwr =>
    cases e
    refine runCommand_moved ?_
    split
    · exact .of_socks rfl
    · exact same _
  | skrd => cases e; exact runCommand_moved (.of_socks rfl)
  | seta => exact ordinary.execSeta (fun hu _ => hu.of_same rfl) here e
  | geta =>
    cases e
    refine runCommand_moved ?_
    split
    · exact .of_socks rfl
    · exact same _
  | drain => exact ordinary.execDrain (fun hu _ => hu.of_same rfl) here e
  | sopen => cases e; exact runCommand_moved (sockOpen_moved ..)
  | sbind => cases e; exact runCommand_moved (sockBind_moved ..)
  | slisten => cases e; exact runCommand_moved (sockListen_moved ..)
  | sconnect => cases e; exact runCommand_moved (sockConnect_moved ..)
  | saccept => cases e; exact runCommand_moved (sockAccept_moved _ _ hs)
  | sshut => cases e; exact runCommand_moved (sockShut_moved ..)
  | sclose => cases e; exact runCommand_moved (sockClose_moved ..)
  | srecv => cases e; exact runCommand_moved (sockRecv_moved ..)
  | _ => cases hc

end command

theorem afterReset_sock (s : State) (j : Nat) : (afterReset s).sock j = Sock.reset := by
  unfold State.sock afterReset State.resetWith
  rw [List.getD_eq_getElem?_getD, List.getElem?_getD_replicate_default_eq]

/-- Settles O60: the four kinds of input of the port, a command by its body. -/
theorem stateChangesAreListed : Obligations.StateChangesAreListed := by
  unfold Obligations.StateChangesAreListed
  intro s t hhost _ hinv e
  suffices h : Moved s t from h.record
  have hs : ∀ j, sockInv s.par (s.sock j) := (recordsSound_iff.mpr ⟨rfl, hinv⟩).sock
  cases hport : s.port with
  | nil =>
    cases (step_empty hport).symm.trans e
    exact .of_socks rfl
  | cons x rest =>
    cases x with
    | command cmd tid wdata =>
      cases hd : decode (.command cmd wdata) with
      | ok i =>
        rw [step_command hport hd] at e
        have moved := command_moved (s := latched cmd tid (taking s rest)) hs (decodeCommand_isCommand hd) e
        exact moved.of_states fun _ => rfl
      | error r =>
        cases (step_illegal hport hd).symm.trans e
        exact .of_socks rfl
    | store a b =>
      cases (step_store hport).symm.trans e
      exact .of_socks rfl
    | reset =>
      cases (step_reset hport).symm.trans e
      exact ⟨fun j => by rw [afterReset_sock]; exact transition_closed _⟩
    | internal en => cases hhost (.internal en) (by simp [hport])

end Sys2Proof.Proofs
end

section
/-! The two ways into the state machine: TCPRX, which hands a segment to the operation of its record's state, and the
sweep of TCPTICK (44_tcp_fsm.md R220, R223, R255). -/

namespace Sys2Proof.Proofs

open Machine Claims

/-! TCPRX. -/

theorem nSock_le_of_legal {p : Params} (h : p.legal = true) : p.nSock ≤ 255 := by
  simp only [Params.legal, Bool.and_eq_true, decide_eq_true_eq] at h
  omega

/-- The decoder's choice by the state code is the machine's own dispatch (44_tcp_fsm.md R223). -/
theorem exec_selected {s : State} {sock ifx : Byte} (h : indexed s sock ifx) (src dst : Word) (seg : Segment) :
    ∃ op, decode (.state (s.sock sock.toNat).state.code sock ifx src dst seg) = .ok op ∧
      exec op s = .next (tcpDispatch sock.toNat ifx src dst seg s) := by
  unfold tcpDispatch
  cases (s.sock sock.toNat).state <;> exact ⟨_, rfl, stateOp_of_indexed h _⟩

/-- Settles O42: the three tests, the lookup, and the operation of the matched record's state. -/
theorem tcprxValidatesThenDispatches : Obligations.TcprxValidatesThenDispatches := by
  unfold Obligations.TcprxValidatesThenDispatches
  intro s ifx src dst b hi hlegal hsized doff g drops
  have hexec := exec_tcprx hi src dst b
  rw [receiveTcp] at hexec
  dsimp only at hexec
  split
  case isTrue hlen => exact hexec.trans (by rw [if_pos hlen]; rfl)
  case isFalse hlen =>
    rw [if_neg hlen] at hexec
    split
    case isTrue hoff => exact hexec.trans (by rw [if_pos (by exact hoff)]; rfl)
    case isFalse hoff =>
      rw [if_neg (by exact hoff)] at hexec
      split
      case isTrue hsum => exact hexec.trans (by rw [if_pos (by exact hsum)]; rfl)
      case isFalse hsum =>
        rw [if_neg (by exact hsum)] at hexec
        refine ⟨fun hnone => ?_, fun n hn => ?_⟩
        · rw [findTcp_eq_none hnone] at hexec
          exact hexec
        · rw [findTcp_eq_some_iff.mpr hn] at hexec
          have hlt : n < s.par.nSock := by
            rw [← hsized.2]
            rcases hn with ⟨⟨⟨hlt, -⟩, -⟩, -⟩ | ⟨-, ⟨⟨hlt, -⟩, -⟩, -⟩ <;> exact hlt
          have hsmall : s.par.nSock ≤ 255 := nSock_le_of_legal hlegal
          have hidx : (BitVec.ofNat 8 n).toNat = n := by
            rw [BitVec.toNat_ofNat]
            omega
          have hindexed : indexed { s with r0 := BitVec.ofNat 32 n, st := 0 } (BitVec.ofNat 8 n) ifx :=
            ⟨hi, by rw [hidx]; exact hlt, hsized⟩
          obtain ⟨op, hdec, hop⟩ := exec_selected hindexed src dst g
          rw [hidx] at hdec hop
          exact ⟨op, _, hdec, hop, hexec⟩

/-! The sweep of TCPTICK. -/

/-- What the tick makes of a record (44_tcp_fsm.md R255). -/
def ticked (p : Params) (now : Word) (k : Sock) : Sock :=
  if lapsed p now k then closedFrom false k else if owesAck p now k then { k with ackPending := false } else k

theorem tickCloses_eq (s : State) (k : Sock) : tickCloses s k = lapsed s.par s.now k := by
  simp only [tickCloses, lapsed, expired, age, Bool.and_assoc]
  rfl

theorem tickAcks_eq {p : Params} {now : Word} {k : Sock} (h : lapsed p now k = false) :
    tickAcks k = owesAck p now k := by
  unfold owesAck tickAcks
  rw [h]
  cases k.state <;> simp [TcpState.acksAtTick]

section tick
variable (i : Nat) (s : State)

theorem tickSock_socks : (tickSock i s).socks = s.socks.set i (ticked s.par s.now (s.sock i)) := by
  unfold tickSock ticked
  dsimp only
  rw [tickCloses_eq, enterClosed_eq]
  split
  · rfl
  · rename_i hl
    rw [tickAcks_eq (by simpa using hl)]
    split
    · rw [updSock_socks, sendAck_socks, sendAck_sock]
    · exact (congrArg State.socks (setSock_self s i)).symm

theorem tickSock_effect : Effect [i] none [] s
    (if owesAck s.par s.now (s.sock i) then some (ackFrom s.par (s.sock i)) else none) s (tickSock i s) := by
  have start := Effect.refl [i] s
  unfold tickSock
  dsimp only
  rw [tickCloses_eq]
  cases hl : lapsed s.par s.now (s.sock i) with
  | true =>
    have hpaid : owesAck s.par s.now (s.sock i) = false := by simp [owesAck, hl]
    rw [hpaid]
    exact start.enterClosed false
  | false =>
    rw [tickAcks_eq hl]
    cases owesAck s.par s.now (s.sock i) with
    | true =>
      rw [if_pos rfl, if_neg Bool.false_ne_true, if_pos rfl]
      exact (start.sendAck rfl).updSock (by simp) _
    | false => exact start

end tick

theorem countsOnly_trans {s t u : State} (h : countsOnly none s t) (g : countsOnly none t u) : countsOnly none s u :=
  fun b h28 h29 => by
    have h := h b h28 h29
    have g := g b h28 h29
    simp_all

theorem quiet_trans {is js : List Nat} {s t u : State} (hsub : ∀ i ∈ is, i ∈ js) (h : quiet is none s t)
    (g : quiet js none t u) : quiet js none s u := by
  obtain ⟨⟨⟨a, cmd, tid, lock, now, par, mem, port⟩, len, others, ⟨ifsLen, iface⟩, icmp, up, out, cnt⟩, ev⟩ := h
  obtain ⟨⟨⟨a', cmd', tid', lock', now', par', mem', port'⟩, len', others', ⟨ifsLen', iface'⟩, icmp', up', out', cnt'⟩,
    ev'⟩ := g
  exact ⟨⟨⟨a'.trans a, cmd'.trans cmd, tid'.trans tid, lock'.trans lock, now'.trans now, par'.trans par, mem'.trans mem,
    port'.trans port⟩, len'.trans len, fun j hj => (others' j hj).trans (others j fun hi => hj (hsub j hi)),
    ⟨ifsLen'.trans ifsLen, fun j => (iface' j).trans (iface j)⟩, icmp'.trans icmp, up'.trans up, out'.trans out,
    countsOnly_trans cnt cnt'⟩, ev'.trans ev⟩

/-- What a sweep does over the records `l`, from `s` to `t`. -/
structure Swept (js : List Nat) (l : List Sock) (s t : State) : Prop where
  quiet : quiet js none s t
  silent : (∀ k ∈ l, owesAck s.par s.now k = false) → SameLink s t
  single : ∀ a k b, l = a ++ k :: b → owesAck s.par s.now k = true → (∀ x ∈ a ++ b, owesAck s.par s.now x = false) →
    oneSegment s t k.ifx k.localAddr.word k.remoteAddr.word (ackOf s.par k)

/-- The sweep, over the records behind the ones it has done: what it makes of them, how many it closes, and what it
hands to the link. -/
theorem tickSocks_swept (js : List Nat) (l : List Sock) (pre : List Sock) (c : Nat) (s : State)
    (hs : s.socks = pre ++ l) (hjs : ∀ i < pre.length + l.length, i ∈ js) :
    (tickSocks l.length pre.length c s).1.socks = pre ++ l.map (ticked s.par s.now) ∧
    (tickSocks l.length pre.length c s).2 = c + (l.filter (lapsed s.par s.now)).length ∧
    Swept js l s (tickSocks l.length pre.length c s).1 := by
  induction l generalizing pre c s with
  | nil =>
    exact ⟨by simpa [tickSocks] using hs, rfl, (Effect.refl js s).quiet, fun _ => .refl s, by simp⟩
  | cons k l ih =>
    have hk : s.sock pre.length = k := by simp [State.sock, hs]
    have effect := tickSock_effect pre.length s
    have hsocks : (tickSock pre.length s).socks = (pre ++ [ticked s.par s.now k]) ++ l := by
      rw [tickSock_socks, hk, hs]
      simp
    rw [hk] at effect
    have hpar : (tickSock pre.length s).par = s.par := effect.tables.par
    have hnow : (tickSock pre.length s).now = s.now := effect.tables.now
    obtain ⟨hrest, hcount, hswept⟩ := ih (pre ++ [ticked s.par s.now k])
      (if tickCloses s (s.sock pre.length) then c + 1 else c) (tickSock pre.length s) hsocks
      (fun i hi => hjs i (by simp at hi ⊢; omega))
    rw [hpar, hnow] at hrest hcount
    rw [List.length_append, List.length_singleton] at hrest hcount hswept
    have hi : pre.length ∈ js := hjs _ (by simp)
    refine ⟨by simpa [tickSocks] using hrest, ?_, ?_, fun hall => ?_, fun a x b hl hx hall => ?_⟩
    · refine hcount.trans ?_
      rw [hk, tickCloses_eq, List.filter_cons]
      split
      · rw [List.length_cons]
        omega
      · rfl
    · exact quiet_trans (by simpa using hi) effect.quiet hswept.quiet
    · rw [hall k (by simp)] at effect
      refine SameLink.trans effect.link (hswept.silent ?_)
      rw [hpar, hnow]
      exact fun x hx => hall x (by simp [hx])
    · cases a with
      | nil =>
        obtain ⟨rfl, rfl⟩ : k = x ∧ l = b := by simpa using hl
        rw [hx] at effect
        refine SameLink.oneSegment_after (hswept.silent ?_) effect.link
        rw [hpar, hnow]
        exact hall
      | cons y a =>
        obtain ⟨rfl, rfl⟩ : k = y ∧ l = a ++ x :: b := by simpa using hl
        rw [hall k (by simp)] at effect
        refine SameLink.oneSegment_before effect.link ?_
        rw [← hpar]
        refine hswept.single a x b rfl ?_ ?_
        · rwa [hpar, hnow]
        · rw [hpar, hnow]
          exact fun z hz => hall z (by simp at hz ⊢; tauto)

/-- Settles O32: the whole sweep. -/
theorem tcptickClosesLapsedRecords : Obligations.TcptickClosesLapsedRecords := by
  unfold Obligations.TcptickClosesLapsedRecords
  intro s hl hsized ends owes
  have hlen : s.socks.length = s.par.nSock := hsized.2
  obtain ⟨hsocks, hcount, hswept⟩ := tickSocks_swept (List.range s.par.nSock) s.socks [] 0 (setR0 s 0) rfl
    (fun i hi => by simpa [hlen] using hi)
  rw [hlen, List.length_nil] at hsocks hcount hswept
  have hexec : exec .tcptick s = .next (tcpTick (setR0 s 0)) :=
    congrArg Host.Outcome.next (runCommand_runs s _ _ _ _ (fun _ => hl) (by simp) rfl)
  refine ⟨_, hexec, rfl, ?_, hsocks, hswept.quiet, fun hall => (hswept.silent hall).noSegment,
    fun j hj ho hothers => ?_⟩
  · exact congrArg (BitVec.ofNat 32) (hcount.trans (Nat.zero_add _))
  · have hj' : j < s.socks.length := by rwa [hlen]
    have split : s.socks = s.socks.take j ++ s.sock j :: s.socks.drop (j + 1) := by
      rw [sock_of_lt hj', List.getElem_cons_drop, List.take_append_drop]
    have other (m : Nat) (hm : m < s.socks.length) (hne : m ≠ j) : owes s.socks[m] = false := by
      rw [← sock_of_lt hm]
      exact hothers m (by rwa [← hlen]) hne
    refine hswept.single _ _ _ split ho fun x hx => ?_
    rcases List.mem_append.mp hx with hx | hx
    · obtain ⟨m, hm, rfl⟩ := List.getElem_of_mem hx
      rw [List.length_take] at hm
      rw [List.getElem_take]
      exact other m (by omega) (by omega)
    · obtain ⟨m, hm, rfl⟩ := List.getElem_of_mem hx
      rw [List.length_drop] at hm
      rw [List.getElem_drop]
      exact other (j + 1 + m) (by omega) (by omega)

end Sys2Proof.Proofs
end

section
/-! The payload of a segment: which bytes the first loop of `deliver` holds, which bytes the second moves to the receive
queue, and the record that comes of it (44_tcp_fsm.md R229; 10_state.md R37). -/

namespace Sys2Proof.Proofs

open Machine Claims

/-! Numbers. -/

theorem seqGE_of_distance {q n : Word} (h : (q - n).toNat < 2 ^ 31) : seqGE q n = true := by
  simp only [seqGE, seqLE, seqLT, BitVec.msb_eq_decide, Bool.or_eq_true, beq_iff_eq, decide_eq_true_eq]
  rcases eq_or_ne n q with e | e
  · exact .inl e
  · have : q.toNat ≠ n.toNat := fun e' => e (BitVec.eq_of_toNat_eq e'.symm)
    exact .inr (by bv_omega)

theorem not_seqGE_of_distance {q n : Word} (h0 : 0 < (n - q).toNat) (h : (n - q).toNat < 2 ^ 31) :
    seqGE q n = false := by
  simp only [seqGE, seqLE, seqLT, BitVec.msb_eq_decide, Bool.or_eq_false_iff, beq_eq_false_iff_ne,
    decide_eq_false_iff_not]
  refine ⟨fun e => ?_, by bv_omega⟩
  subst e
  simp at h0

theorem seqLT_edge_iff {q n : Word} {w : Half} (h : (q - n).toNat < 2 ^ 30) :
    seqLT q (n + w.setWidth 32) = decide ((q - n).toNat < w.toNat) := by
  simp only [seqLT, BitVec.msb_eq_decide, decide_eq_decide]
  bv_omega

theorem add_sub_toNat {q : Word} {j : Nat} (h : j < 2 ^ 32) : (q + BitVec.ofNat 32 j - q).toNat = j := by
  bv_omega

/-! The store as a set of bytes under their keys. -/

/-- The keys rise (10_state.md R37). -/
def Rising (l : List (Word × Byte)) : Prop := l.Pairwise fun x y => x.1 < y.1

theorem Rising.head_ne {x y : Word × Byte} {l : List (Word × Byte)} (h : Rising (x :: l)) (hy : y ∈ l) : y.1 ≠ x.1 :=
  fun e => BitVec.lt_irrefl x.1 (by simpa [e] using (List.pairwise_cons.mp h).1 y hy)

theorem mem_oooSet_iff {l : List (Word × Byte)} (h : Rising l) {q : Word} {b : Byte} {x : Word × Byte} :
    x ∈ oooSet l q b ↔ x = (q, b) ∨ (x ∈ l ∧ x.1 ≠ q) := by
  induction l with
  | nil => simp [oooSet]
  | cons y rest ih =>
    obtain ⟨k, v⟩ := y
    obtain ⟨hk, hrest⟩ := List.pairwise_cons.mp h
    have hne : ∀ y ∈ rest, y.1 ≠ k := fun y hy => h.head_ne hy
    unfold oooSet
    split
    · rename_i hq
      have : ∀ y ∈ (k, v) :: rest, y.1 ≠ q := by
        intro y hy e
        rcases List.mem_cons.mp hy with rfl | hy
        · exact BitVec.lt_irrefl q (e ▸ hq)
        · exact BitVec.lt_irrefl q (BitVec.lt_trans hq (e ▸ hk y hy))
      rw [List.mem_cons]
      exact or_congr_right ⟨fun hx => ⟨hx, this x hx⟩, And.left⟩
    · split
      · rename_i hq
        subst hq
        rw [List.mem_cons, List.mem_cons]
        refine or_congr_right ⟨fun hx => ⟨.inr hx, hne x hx⟩, ?_⟩
        rintro ⟨rfl | hx, hxq⟩
        · exact absurd rfl hxq
        · exact hx
      · rename_i hq
        rw [List.mem_cons, List.mem_cons, ih hrest]
        constructor
        · rintro (rfl | rfl | ⟨hx, hxq⟩)
          · exact .inr ⟨.inl rfl, fun e => hq e.symm⟩
          · exact .inl rfl
          · exact .inr ⟨.inr hx, hxq⟩
        · rintro (rfl | ⟨rfl | hx, hxq⟩)
          · exact .inr (.inl rfl)
          · exact .inl rfl
          · exact .inr (.inr ⟨hx, hxq⟩)

theorem oooErase_eq_filter {l : List (Word × Byte)} (h : Rising l) (q : Word) :
    oooErase l q = l.filter fun x => decide (x.1 ≠ q) := by
  induction l with
  | nil => rfl
  | cons y rest ih =>
    obtain ⟨k, v⟩ := y
    unfold oooErase
    split
    · rename_i hq
      subst hq
      rw [List.filter_cons_of_neg (by simp), eq_comm, List.filter_eq_self]
      exact fun y hy => decide_eq_true (h.head_ne hy)
    · rename_i hq
      rw [List.filter_cons_of_pos (by simpa using hq), ih (List.pairwise_cons.mp h).2]

theorem oooGet_of_mem {l : List (Word × Byte)} (h : Rising l) {q : Word} {b : Byte} (hm : (q, b) ∈ l) :
    oooGet l q = some b := by
  induction l with
  | nil => cases hm
  | cons y rest ih =>
    obtain ⟨k, v⟩ := y
    unfold oooGet
    rcases List.mem_cons.mp hm with e | hm
    · cases e
      exact if_pos rfl
    · rw [if_neg fun e => h.head_ne hm e.symm]
      exact ih (List.pairwise_cons.mp h).2 hm

theorem oooGet_eq_none {l : List (Word × Byte)} {q : Word} (h : ∀ x ∈ l, x.1 ≠ q) : oooGet l q = none := by
  cases e : oooGet l q with
  | none => rfl
  | some b =>
    induction l with
    | nil => cases e
    | cons y rest ih =>
      obtain ⟨k, v⟩ := y
      rw [oooGet, if_neg (h (k, v) List.mem_cons_self)] at e
      exact ih (fun x hx => h x (List.mem_cons_of_mem _ hx)) e

theorem filter_oooSet {p : Word × Byte → Bool} {q : Word} (hp : ∀ v, p (q, v) = false) (b : Byte)
    (l : List (Word × Byte)) : (oooSet l q b).filter p = l.filter p := by
  induction l with
  | nil => simp [oooSet, hp]
  | cons y rest ih =>
    obtain ⟨k, v⟩ := y
    unfold oooSet
    split
    · rw [List.filter_cons_of_neg (by simp [hp])]
    · split
      · rename_i hq
        subst hq
        rw [List.filter_cons_of_neg (by simp [hp]), List.filter_cons_of_neg (by simp [hp])]
      · rw [List.filter_cons, List.filter_cons, ih]

/-- The bytes `b` held under the numbers from `q` on, over what was held there. -/
def holdFrom : Word → Bytes → List (Word × Byte) → List (Word × Byte)
  | _, [], l => l
  | q, b :: rest, l => holdFrom (q + 1) rest (oooSet l q b)

theorem holdFrom_rising (q : Word) (b : Bytes) {l : List (Word × Byte)} (h : Rising l) : Rising (holdFrom q b l) := by
  induction b generalizing q l with
  | nil => exact h
  | cons b rest ih => exact ih _ (oooSet_rising q b h)

theorem mem_holdFrom_iff {q : Word} {b : Bytes} {l : List (Word × Byte)} (h : Rising l) (hb : b.length < 2 ^ 32)
    {x : Word × Byte} : x ∈ holdFrom q b l ↔
      (∃ j < b.length, x = (q + BitVec.ofNat 32 j, byteAt b j)) ∨ (x ∈ l ∧ b.length ≤ (x.1 - q).toNat) := by
  induction b generalizing q l with
  | nil => simp [holdFrom]
  | cons b rest ih =>
    rw [List.length_cons] at hb
    have step (j : Nat) : q + 1 + BitVec.ofNat 32 j = q + BitVec.ofNat 32 (j + 1) := by bv_omega
    rw [holdFrom, ih (oooSet_rising q b h) (by omega), mem_oooSet_iff h, List.length_cons]
    constructor
    · rintro (⟨j, hj, rfl⟩ | ⟨rfl | ⟨hx, hxq⟩, hd⟩)
      · exact .inl ⟨j + 1, by omega, by rw [step]; rfl⟩
      · exact .inl ⟨0, by omega, by simp [byteAt]⟩
      · exact .inr ⟨hx, by have := sub_succ_toNat hxq; omega⟩
    · rintro (⟨j, hj, rfl⟩ | ⟨hx, hd⟩)
      · cases j with
        | zero => exact .inr ⟨.inl (by simp [byteAt]), by dsimp only; bv_omega⟩
        | succ j => exact .inl ⟨j, by omega, by rw [step]; rfl⟩
      · have hxq : x.1 ≠ q := fun e => by simp [e] at hd
        exact .inr ⟨.inr ⟨hx, hxq⟩, by have := sub_succ_toNat hxq; omega⟩

theorem filter_holdFrom {p : Word × Byte → Bool} {q : Word} {b : Bytes}
    (hp : ∀ j < b.length, ∀ v, p (q + BitVec.ofNat 32 j, v) = false) (l : List (Word × Byte)) :
    (holdFrom q b l).filter p = l.filter p := by
  induction b generalizing q l with
  | nil => rfl
  | cons b rest ih =>
    have step (j : Nat) : q + 1 + BitVec.ofNat 32 j = q + BitVec.ofNat 32 (j + 1) := by bv_omega
    rw [holdFrom, ih fun j hj v => step j ▸ hp (j + 1) (by simpa using hj) v]
    exact filter_oooSet (by simpa using hp 0 (by simp)) b l

/-! The first loop. -/

/-- Bytes below `rcvNxt` are skipped. -/
theorem storePayload_below {n e q : Word} (h : (n - q).toNat < 2 ^ 31) (b : Bytes) (l : List (Word × Byte)) :
    storePayload n e q b l = storePayload n e n (b.drop (n - q).toNat) l := by
  induction b generalizing q l with
  | nil => simp [storePayload]
  | cons b rest ih =>
    rcases Nat.eq_zero_or_pos (n - q).toNat with h0 | h0
    · have : q = n := by bv_omega
      simp [this]
    · have hnext : (n - q).toNat = (n - (q + 1)).toNat + 1 := by bv_omega
      rw [storePayload, not_seqGE_of_distance h0 h, Bool.false_and, if_neg Bool.false_ne_true, ih (by omega), hnext,
        List.drop_succ_cons]

/-- Bytes from `rcvNxt` on are held as far as they fit the window. -/
theorem storePayload_above {n q : Word} {w : Half} {b : Bytes} (h : (q - n).toNat + b.length < 2 ^ 30)
    (l : List (Word × Byte)) :
    storePayload n (n + w.setWidth 32) q b l = holdFrom q (b.take (w.toNat - (q - n).toNat)) l := by
  induction b generalizing q l with
  | nil => simp [storePayload, holdFrom]
  | cons b rest ih =>
    rw [List.length_cons] at h
    have hnext : (q + 1 - n).toNat = (q - n).toNat + 1 := by bv_omega
    rw [storePayload, seqGE_of_distance (by omega), seqLT_edge_iff (by omega), Bool.true_and, ih (by omega), hnext]
    split
    · rename_i hin
      have hin := of_decide_eq_true hin
      have : w.toNat - (q - n).toNat = w.toNat - ((q - n).toNat + 1) + 1 := by omega
      rw [this, List.take_succ_cons, holdFrom]
    · rename_i hout
      have hout : ¬ (q - n).toNat < w.toNat := fun h => hout (decide_eq_true h)
      have h0 : w.toNat - (q - n).toNat = 0 := by omega
      have h1 : w.toNat - ((q - n).toNat + 1) = 0 := by omega
      rw [h0, h1, List.take_zero, List.take_zero, holdFrom, holdFrom]

/-! The second loop. -/

theorem moveContiguous_of_gap {k : Sock} (h : ∀ x ∈ k.ooo, x.1 ≠ k.rcvNxt) (n : Nat) : moveContiguous n k = k := by
  cases n with
  | zero => rfl
  | succ n =>
    unfold moveContiguous
    rw [oooGet_eq_none h]

/-- What waits without a gap from `rcvNxt` on moves to the receive queue. -/
theorem moveContiguous_run {n : Nat} {k : Sock} (hr : Rising k.ooo) (hfuel : k.ooo.length ≤ n) {b : Bytes}
    (hb : b.length < 2 ^ 32)
    (hrun : ∀ j < b.length, (k.rcvNxt + BitVec.ofNat 32 j, byteAt b j) ∈ k.ooo)
    (hend : ∀ x ∈ k.ooo, x.1 ≠ k.rcvNxt + BitVec.ofNat 32 b.length) :
    moveContiguous n k = takenIn b k := by
  induction b generalizing n k with
  | nil =>
    rw [moveContiguous_of_gap (by simpa using hend)]
    simp [takenIn]
  | cons b rest ih =>
    have hfirst : (k.rcvNxt, b) ∈ k.ooo := by simpa [byteAt] using hrun 0 (by simp)
    have step (j : Nat) : k.rcvNxt + 1 + BitVec.ofNat 32 j = k.rcvNxt + BitVec.ofNat 32 (j + 1) := by bv_omega
    have herase := oooErase_eq_filter hr k.rcvNxt
    rw [List.length_cons] at hb hrun hend
    cases n with
    | zero =>
      rw [List.length_eq_zero_iff.mp (Nat.le_zero.mp hfuel)] at hfirst
      cases hfirst
    | succ n =>
      have hget := oooGet_of_mem hr hfirst
      obtain ⟨-, hlen, hsub, -⟩ := oooErase_of_get hr hget
      unfold moveContiguous
      rw [hget]
      dsimp only
      rw [ih (hr.sublist hsub) (by dsimp only; omega) (by omega) (fun j hj => ?_) (fun x hx => ?_)]
      · have held : (oooErase k.ooo k.rcvNxt).filter (fun x => decide (rest.length ≤ (x.1 - (k.rcvNxt + 1)).toNat)) =
            k.ooo.filter fun x => decide (rest.length + 1 ≤ (x.1 - k.rcvNxt).toNat) := by
          rw [herase, List.filter_filter]
          refine List.filter_congr fun x _ => ?_
          by_cases hx : x.1 = k.rcvNxt
          · simp [hx]
          · have := sub_succ_toNat hx
            simp only [hx, ne_eq, not_false_eq_true, decide_true, Bool.and_true, decide_eq_decide]
            omega
        simp only [takenIn, held, List.length_cons, List.append_assoc, List.singleton_append, step]
        congr 1
        bv_omega
      · dsimp only
        rw [step, herase, List.mem_filter]
        refine ⟨hrun (j + 1) (by omega), decide_eq_true ?_⟩
        dsimp only
        bv_omega
      · dsimp only
        rw [step]
        exact hend x (hsub.subset hx)

end Sys2Proof.Proofs
end

section
/-! The operations that take data: the record `deliver` leaves, the acknowledgement behind it, and the FIN
(44_tcp_fsm.md R229 to R231, R244, R245, R247, R248). -/

namespace Sys2Proof.Proofs

open Machine Claims

/-! The record after `deliver`. -/

section record
variable {p : Params} {k : Sock} {seg : Segment}

theorem length_pay_lt (h : segmentOk seg = true) : seg.pay.length < 2 ^ 16 := by
  have := of_decide_eq_true h
  unfold maxPayload at this
  omega

/-- What waits behind the fresh bytes lies in the window with them (10_state.md R37). -/
theorem length_run_le (hi : oooInv p k) {n : Nat} (hn : n ≤ k.rcvWnd.toNat) {run : Bytes}
    (hw : waitsFrom k (k.rcvNxt + BitVec.ofNat 32 n) run) : n + run.length ≤ k.rcvWnd.toNat := by
  obtain ⟨-, -, inside⟩ := hi
  by_contra h
  have last := inside _ (hw.1 (k.rcvWnd.toNat - n) (by omega))
  dsimp only at last
  bv_omega

theorem storePayload_fresh (h : segmentOk seg = true) (hold : (k.rcvNxt - seg.seq).toNat ≤ seg.pay.length) :
    storePayload k.rcvNxt (k.rcvNxt + k.rcvWnd.setWidth 32) seg.seq seg.pay k.ooo =
      holdFrom k.rcvNxt (freshBytes k seg) k.ooo := by
  have hlen := length_pay_lt h
  rw [storePayload_below (by omega), storePayload_above (by simp only [List.length_drop, BitVec.sub_self]; simp; omega)]
  simp [freshBytes]

theorem length_freshBytes_le (k : Sock) (seg : Segment) : (freshBytes k seg).length ≤ k.rcvWnd.toNat := by
  simp [freshBytes]

/-- Payload that reaches back to `rcvNxt` is taken in with what waits behind it. -/
theorem deliveredRecord_fresh (h : segmentOk seg = true) (hold : (k.rcvNxt - seg.seq).toNat ≤ seg.pay.length)
    (hi : oooInv p k) {run : Bytes} (hw : waitsFrom k (k.rcvNxt + BitVec.ofNat 32 (freshBytes k seg).length) run) :
    deliveredRecord p seg k = { takenIn (freshBytes k seg ++ run) k with ackPending := true } := by
  generalize hnew : freshBytes k seg = new at hw ⊢
  have hroom : new.length + run.length ≤ k.rcvWnd.toNat := length_run_le hi (hnew ▸ length_freshBytes_le k seg) hw
  have hwnd := k.rcvWnd.isLt
  obtain ⟨hdrop, hrising, -⟩ := hi
  have held (x : Word × Byte) : x ∈ holdFrom k.rcvNxt new k.ooo ↔ _ := mem_holdFrom_iff hrising (by omega)
  have moved : moveContiguous (holdFrom k.rcvNxt new k.ooo).length
      { k with ackPending := true, ooo := holdFrom k.rcvNxt new k.ooo } =
      takenIn (new ++ run) { k with ackPending := true, ooo := holdFrom k.rcvNxt new k.ooo } := by
    refine moveContiguous_run (k := { k with ackPending := true, ooo := holdFrom k.rcvNxt new k.ooo })
      (b := new ++ run) (holdFrom_rising _ _ hrising) (Nat.le_refl _)
      (by rw [List.length_append]; omega) (fun j hj => ?_) (fun x hx => ?_)
    · rw [List.length_append] at hj
      refine (held _).mpr ?_
      rcases Nat.lt_or_ge j new.length with hlt | hge
      · exact .inl ⟨j, hlt, congrArg _ (List.getD_append _ _ _ _ hlt)⟩
      · have waits := hw.1 (j - new.length) (by omega)
        have key : k.rcvNxt + BitVec.ofNat 32 new.length + BitVec.ofNat 32 (j - new.length) =
            k.rcvNxt + BitVec.ofNat 32 j := by bv_omega
        refine .inr ⟨?_, by dsimp only; rw [add_sub_toNat (by omega)]; exact hge⟩
        rw [key] at waits
        rwa [byteAt, List.getD_append_right _ _ _ _ hge]
    · rw [List.length_append]
      dsimp only
      rcases (held x).mp hx with ⟨j, hj, rfl⟩ | ⟨hx, -⟩
      · dsimp only
        bv_omega
      · have := hw.2 x hx
        rwa [BitVec.add_assoc, ← BitVec.ofNat_add] at this
  have kept : (holdFrom k.rcvNxt new k.ooo).filter
      (fun x => decide ((new ++ run).length ≤ (x.1 - k.rcvNxt).toNat)) =
      k.ooo.filter fun x => decide ((new ++ run).length ≤ (x.1 - k.rcvNxt).toNat) := by
    refine filter_holdFrom (fun j hj v => decide_eq_false ?_) _
    dsimp only
    rw [add_sub_toNat (by omega), List.length_append]
    omega
  unfold deliveredRecord
  dsimp only
  rw [storePayload_fresh h hold, hnew, moved]
  split
  · simp only [takenIn, kept]
  · rename_i hd
    simp [takenIn, hdrop hd]

/-- What is held with the payload of a segment past a gap (44_tcp_fsm.md R229). -/
def heldPast (p : Params) (seg : Segment) (k : Sock) : List (Word × Byte) :=
  match p.tcpOoo with
  | .buffer => holdFrom seg.seq (seg.pay.take (k.rcvWnd.toNat - (seg.seq - k.rcvNxt).toNat)) k.ooo
  | .drop => []

theorem deliveredRecord_gap (h : segmentOk seg = true) (hgap : 0 < (seg.seq - k.rcvNxt).toNat)
    (hin : (seg.seq - k.rcvNxt).toNat < k.rcvWnd.toNat) (hi : oooInv p k) (hne : ∀ x ∈ k.ooo, x.1 ≠ k.rcvNxt) :
    deliveredRecord p seg k = { k with ooo := heldPast p seg k, ackPending := true } := by
  have hlen := length_pay_lt h
  have hwnd := k.rcvWnd.isLt
  obtain ⟨-, hrising, -⟩ := hi
  unfold deliveredRecord heldPast
  dsimp only
  rw [storePayload_above (by omega), moveContiguous_of_gap]
  · cases p.tcpOoo <;> rfl
  · intro x hx
    rcases (mem_holdFrom_iff hrising (by simp; omega)).mp hx with ⟨j, hj, rfl⟩ | ⟨hx, -⟩
    · rw [List.length_take] at hj
      dsimp only
      bv_omega
    · exact hne x hx

end record

end Sys2Proof.Proofs
end

section
/-! The four operations that take data, on a segment that passes the checks: the pure acknowledgement, data in order and
past a gap, and the FIN (44_tcp_fsm.md R228 to R231, R235, R238, R244, R245, R247, R248). -/

namespace Sys2Proof.Proofs

open Machine Claims

/-! The record behind the checks. -/

/-- `g` is `k` but for what an acknowledgement writes: the send fields, and the state and timer of FIN-WAIT-2. -/
def AckOnly (k g : Sock) : Prop :=
  ∃ una wnd max st tm, g = { k with sndUna := una, sndWnd := wnd, maxSndWnd := max, state := st, tFw2 := tm }

/-- `k`, owing an acknowledgement or not. -/
def owing (owed : Bool) (k : Sock) : Sock := { k with ackPending := owed }

theorem afterAck_ackOnly (seg : Segment) (k : Sock) : AckOnly k (afterAck seg k) := by
  unfold afterAck
  split
  · exact ⟨_, _, _, k.state, k.tFw2, rfl⟩
  · exact ⟨_, _, _, _, _, rfl⟩

theorem finAckedBy_ackOnly (now : Word) (seg : Segment) (k : Sock) : AckOnly k (finAckedBy now seg k) := by
  obtain ⟨una, wnd, max, st, tm, e⟩ := afterAck_ackOnly seg k
  unfold finAckedBy
  rw [e]
  exact ⟨una, wnd, max, _, _, rfl⟩

theorem acked_ackOnly (c : Prop) [Decidable c] (now : Word) (seg : Segment) (k : Sock) :
    AckOnly k (if c then finAckedBy now seg k else afterAck seg k) := by
  split
  · exact finAckedBy_ackOnly ..
  · exact afterAck_ackOnly ..

/-! The operations behind the checks. -/

section operations
variable {s : State} {sock ifx : Byte} {src dst : Word} {seg : Segment}

/-- What an operation that takes data ends with: payload, FIN, owed acknowledgement. -/
def taken (i : Nat) (seg : Segment) (fin : State → State) (s : State) (k : Sock) : State :=
  done (ackFlush i (fin (deliver i seg (setSock s i k)))) .ok

/-- FIN-WAIT-1 looks at its record's state once payload is delivered (44_tcp_fsm.md R247). -/
def finWait1Fin (i : Nat) (seg : Segment) (t : State) : State := finHandle i seg (postFin (t.sock i)) t

section
variable (h : indexed s sock ifx) (hp : passesAck (s.sock sock.toNat) seg)
include h hp

theorem exec_established : exec (.tcpsEstablished sock ifx src dst seg) s =
    .next (taken sock.toNat seg (finHandle sock.toNat seg .closeWait) s (afterAck seg (s.sock sock.toNat))) := by
  have e : exec (.tcpsEstablished sock ifx src dst seg) s = .next (tcpEstablished sock.toNat ifx src dst seg s) :=
    stateOp_of_indexed h _
  rw [e, tcpEstablished, std4_of_passesAck hp]
  rfl

theorem exec_closeWait : exec (.tcpsCloseWait sock ifx src dst seg) s =
    .next (taken sock.toNat seg id s (afterAck seg (s.sock sock.toNat))) := by
  have e : exec (.tcpsCloseWait sock ifx src dst seg) s = .next (tcpCloseWait sock.toNat ifx src dst seg s) :=
    stateOp_of_indexed h _
  rw [e, tcpCloseWait, std4_of_passesAck hp]
  rfl

theorem exec_finWait2 : exec (.tcpsFinWait2 sock ifx src dst seg) s =
    .next (taken sock.toNat seg (finHandle sock.toNat seg .timeWait) s (afterAck seg (s.sock sock.toNat))) := by
  have e : exec (.tcpsFinWait2 sock ifx src dst seg) s = .next (tcpFinWait2 sock.toNat ifx src dst seg s) :=
    stateOp_of_indexed h _
  rw [e, tcpFinWait2, std4_of_passesAck hp]
  rfl

theorem exec_finWait1 : exec (.tcpsFinWait1 sock ifx src dst seg) s =
    .next (taken sock.toNat seg (finWait1Fin sock.toNat seg) s
      (if seg.ack = (s.sock sock.toNat).sndNxt then finAckedBy s.now seg (s.sock sock.toNat)
       else afterAck seg (s.sock sock.toNat))) := by
  have e : exec (.tcpsFinWait1 sock ifx src dst seg) s = .next (tcpFinWait1 sock.toNat ifx src dst seg s) :=
    stateOp_of_indexed h _
  have acked : finAcked sock.toNat seg (setSock s sock.toNat (afterAck seg (s.sock sock.toNat))) =
      setSock s sock.toNat (if seg.ack = (s.sock sock.toNat).sndNxt then finAckedBy s.now seg (s.sock sock.toNat)
        else afterAck seg (s.sock sock.toNat)) := by
    have hnxt := afterAck_sndNxt seg (s.sock sock.toNat)
    rw [finAcked, updSock, sock_setSock_same _ _ _ (indexed_lt h), setSock_setSock]
    by_cases hack : seg.ack = (s.sock sock.toNat).sndNxt
    · rw [if_pos (hack.trans hnxt.symm), if_pos hack]
      rfl
    · rw [if_neg fun e => hack (e.trans hnxt), if_neg hack]
  rw [e, tcpFinWait1, std4_of_passesAck hp, Flow.andThen, acked]
  rfl

/-- The four at once; where no FIN is taken, the FIN step does nothing. -/
theorem exec_dataOp {op : Instr} (hop : op ∈ dataOps sock ifx src dst seg) :
    ∃ fin, exec op s = .next (taken sock.toNat seg fin s
        (if op = .tcpsFinWait1 sock ifx src dst seg ∧ seg.ack = (s.sock sock.toNat).sndNxt then
          finAckedBy s.now seg (s.sock sock.toNat) else afterAck seg (s.sock sock.toNat))) ∧
      ∀ v, has seg flagFIN = false ∨ op = .tcpsCloseWait sock ifx src dst seg ∨
        (v.sock sock.toNat).rcvNxt ≠ finSeq seg → fin v = v := by
  have idle {v : State} {post : TcpState} (hv : has seg flagFIN = false ∨ (v.sock sock.toNat).rcvNxt ≠ finSeq seg) :
      finHandle sock.toNat seg post v = v := by
    rw [finHandle, if_neg]
    rintro ⟨hf, he⟩
    rcases hv with hv | hv
    · simp [hf] at hv
    · exact hv he
  simp only [dataOps, List.mem_cons, List.not_mem_nil, or_false] at hop
  rcases hop with rfl | rfl | rfl | rfl
  · exact ⟨finHandle sock.toNat seg .closeWait, by rw [exec_established h hp, if_neg (by simp)],
      fun v hv => idle (by simpa using hv)⟩
  · exact ⟨id, by rw [exec_closeWait h hp, if_neg (by simp)], fun v _ => rfl⟩
  · exact ⟨finWait1Fin sock.toNat seg, by rw [exec_finWait1 h hp]; simp, fun v hv => idle (by simpa using hv)⟩
  · exact ⟨finHandle sock.toNat seg .timeWait, by rw [exec_finWait2 h hp, if_neg (by simp)],
      fun v hv => idle (by simpa using hv)⟩

end

/-- Settles O48: nothing to deliver, no FIN, nothing owed. -/
theorem pureAckResults : Obligations.PureAckResults := by
  unfold Obligations.PureAckResults
  intro s sock ifx src dst seg h k hp hpay hfin howes op hop
  obtain ⟨fin, hexec, hidle⟩ := exec_dataOp h hp hop
  rw [hexec]
  have hack := acked_ackOnly (op = .tcpsFinWait1 sock ifx src dst seg ∧ seg.ack = k.sndNxt) s.now seg k
  generalize hg : (if op = .tcpsFinWait1 sock ifx src dst seg ∧ seg.ack = k.sndNxt then
    finAckedBy s.now seg k else afterAck seg k) = g at hack
  have paid : ((setSock s sock.toNat g).sock sock.toNat).ackPending = false := by
    obtain ⟨_, _, _, _, _, rfl⟩ := hack
    rw [sock_setSock_same _ _ _ (indexed_lt h)]
    exact howes
  rw [taken, deliver, if_pos hpay, hidle _ (.inl hfin), ackFlush_of_paid paid, ← hg]
  rfl

/-! What comes behind the payload. -/

section tail
variable {evs : List EvEntry} {v : State} {i : Nat} {g : Sock}

/-- An acknowledgement that is owed is left to the tick where the hook defers it, and goes out as one ACK otherwise
(44_tcp_fsm.md R231). -/
theorem ackFlush_owed (h : Effect [i] none evs s none s v) (hlt : i < v.socks.length)
    (hv : v.sock i = owing true g) :
    ((done (ackFlush i v) .ok).sock i = owing (deferAnswer s) g) ∧
    tcpFrame [i] none s (done (ackFlush i v) .ok) ∧ (done (ackFlush i v) .ok).evq = s.evq ++ evs ∧
    if deferAnswer s then noSegment s (done (ackFlush i v) .ok)
    else oneSegment (deferAsked s) (done (ackFlush i v) .ok) g.ifx g.localAddr.word g.remoteAddr.word
      (ackOf s.par g) := by
  have answer : deferAnswer v = deferAnswer s := SameLink.deferAnswer h.link
  have asked : (deferAsked v).sock i = owing true g := (deferAsked_sock v i).trans hv
  rw [ackFlush, if_pos (by rw [hv]; rfl), answer]
  cases deferAnswer s with
  | true =>
    have e := h.deferAsked.done .ok
    have quiet : noSegment (deferAsked s) (done (deferAsked v) .ok) := SameLink.noSegment e.link
    refine ⟨asked, e.frame, e.events, ?_⟩
    unfold noSegment at quiet
    rw [deferAsked_txq, deferAsked_ifs, deferAsked_cnt] at quiet
    exact quiet
  | false =>
    have sent : (sendAck i (deferAsked v)).sock i = owing true g :=
      (sock_congr _ _ (sendAck_socks ..) i).trans asked
    have e := ((h.deferAsked.sendAck asked).setSock (i := i) (by simp) (owing false g)).done .ok
    have hlt' : i < (sendAck i (deferAsked v)).socks.length := by rwa [sendAck_socks, deferAsked_socks]
    rw [if_neg Bool.false_ne_true, updSock, sent]
    exact ⟨sock_setSock_same _ _ _ hlt', e.frame, e.events, e.link⟩

/-- The record behind a FIN that is taken (44_tcp_fsm.md R230, R235). -/
def finTaken (now : Word) (post : TcpState) (k : Sock) : Sock :=
  if post = .timeWait then waitFrom now k else { k with state := post }

theorem finTaken_owes (now : Word) (post : TcpState) (k : Sock) :
    (finTaken now post k).ackPending = k.ackPending := by
  unfold finTaken
  split <;> rfl

theorem finHandle_eq {k : Sock} (hlt : i < v.socks.length) (hk : v.sock i = k) (hf : has seg flagFIN = true)
    (hn : k.rcvNxt = finSeq seg) (post : TcpState) :
    finHandle i seg post v = setSock (sendAck i (setSock v i { k with rcvNxt := k.rcvNxt + 1 })) i
      (finTaken v.now post { k with rcvNxt := k.rcvNxt + 1, ackPending := false }) := by
  have sent : (sendAck i (setSock v i { k with rcvNxt := k.rcvNxt + 1 })).sock i = { k with rcvNxt := k.rcvNxt + 1 } :=
    (sock_congr _ _ (sendAck_socks ..) i).trans (sock_setSock_same _ _ _ hlt)
  have hlt' : i < (sendAck i (setSock v i { k with rcvNxt := k.rcvNxt + 1 })).socks.length := by
    rw [sendAck_socks]
    simpa using hlt
  have hnow : (sendAck i (setSock v i { k with rcvNxt := k.rcvNxt + 1 })).now = v.now := sendAck_now ..
  rw [finHandle, hk, if_pos ⟨hf, hn⟩, updSock, hk]
  dsimp only
  generalize sendAck i (setSock v i { k with rcvNxt := k.rcvNxt + 1 }) = w at sent hlt' hnow ⊢
  rw [updSock, sent, enterTimeWait_eq, updSock, sock_setSock_same _ _ _ hlt', setSock_setSock, setSock_setSock,
    finTaken, setSock_now, hnow]
  split <;> rfl

/-- A FIN at `rcvNxt` is passed, acknowledged at once, and moves the record on. -/
theorem finHandle_taken {k : Sock} (h : Effect [i] none evs s none s v) (hlt : i < v.socks.length) (hk : v.sock i = k)
    (hf : has seg flagFIN = true) (hn : k.rcvNxt = finSeq seg) (post : TcpState)
    (hg : { k with rcvNxt := k.rcvNxt + 1, ackPending := false } = g) :
    ((done (ackFlush i (finHandle i seg post v)) .ok).sock i = finTaken s.now post g) ∧
    tcpFrame [i] none s (done (ackFlush i (finHandle i seg post v)) .ok) ∧
    (done (ackFlush i (finHandle i seg post v)) .ok).evq = s.evq ++ evs ∧
    oneSegment s (done (ackFlush i (finHandle i seg post v)) .ok) g.ifx g.localAddr.word g.remoteAddr.word
      (ackOf s.par g) := by
  have hi : i ∈ [i] := by simp
  have hlt' : i < (sendAck i (setSock v i { k with rcvNxt := k.rcvNxt + 1 })).socks.length := by
    rw [sendAck_socks]
    simpa using hlt
  have record := sock_setSock_same _ i (finTaken v.now post g) hlt'
  have paid : ((setSock (sendAck i (setSock v i { k with rcvNxt := k.rcvNxt + 1 })) i
      (finTaken v.now post g)).sock i).ackPending = false := by
    rw [record, finTaken_owes, ← hg]
  have e := (((h.setSock hi _).sendAck (sock_setSock_same v i { k with rcvNxt := k.rcvNxt + 1 } hlt)).setSock hi
    (finTaken v.now post g)).done .ok
  rw [finHandle_eq hlt hk hf hn, hg, ackFlush_of_paid paid]
  refine ⟨record.trans ?_, e.frame, e.events, ?_⟩
  · rw [show v.now = s.now from h.tables.now]
  · rw [← hg]
    exact e.link

/-- Payload that reaches back to `rcvNxt`, or no payload: the record, the events, the frame. -/
theorem deliver_fresh (hlt : i < s.socks.length) (h : segmentOk seg = true)
    (hold : (g.rcvNxt - seg.seq).toNat ≤ seg.pay.length) (hi : oooInv s.par g) {run : Bytes}
    (hw : waitsFrom g (g.rcvNxt + BitVec.ofNat 32 (freshBytes g seg).length) run) (hnil : seg.pay = [] → run = []) :
    ∃ owed, (seg.pay ≠ [] → owed = true) ∧
      (deliver i seg (setSock s i g)).sock i = owing owed (takenIn (freshBytes g seg ++ run) g) ∧
      i < (deliver i seg (setSock s i g)).socks.length ∧
      Effect [i] none (if freshBytes g seg ++ run = [] then [] else [⟨BitVec.ofNat 8 i, .dataReady⟩]) s none s
        (deliver i seg (setSock s i g)) := by
  have hmem : i ∈ [i] := by simp
  have start := (Effect.refl [i] s).setSock hmem g
  have hsock := sock_setSock_same s i g hlt
  have hlt' : i < (setSock s i g).socks.length := by simpa using hlt
  by_cases hpay : seg.pay = []
  · have hnew : freshBytes g seg ++ run = [] := by simp [freshBytes, hpay, hnil hpay]
    have same : owing g.ackPending (takenIn [] g) = g := by simp [owing, takenIn]
    rw [deliver, if_pos hpay, hnew, if_pos rfl]
    exact ⟨g.ackPending, fun hne => absurd hpay hne, by rw [hsock, same], hlt', start⟩
  · have record := deliveredRecord_fresh h hold hi hw
    refine ⟨true, fun _ => rfl, ?_⟩
    rw [deliver, if_neg hpay, setSock_par, hsock, record]
    dsimp only
    rw [setSock_setSock]
    have hlen : (takenIn (freshBytes g seg ++ run) g).rxq.length = g.rxq.length + (freshBytes g seg ++ run).length :=
      List.length_append
    have written := (Effect.refl [i] s).setSock hmem { takenIn (freshBytes g seg ++ run) g with ackPending := true }
    rw [hlen]
    by_cases hnew : freshBytes g seg ++ run = []
    · rw [if_pos hnew, if_pos (by simp [hnew])]
      exact ⟨sock_setSock_same _ _ _ hlt, by simpa using hlt, written⟩
    · have := List.length_pos_iff.mpr hnew
      rw [if_neg hnew, if_neg (by omega)]
      exact ⟨sock_setSock_same _ _ _ hlt, by simpa using hlt, written.signal i .dataReady⟩

/-- Payload past a gap. -/
theorem deliver_gap (hlt : i < s.socks.length) (h : segmentOk seg = true) (hpay : seg.pay ≠ [])
    (hgap : 0 < (seg.seq - g.rcvNxt).toNat) (hin : (seg.seq - g.rcvNxt).toNat < g.rcvWnd.toNat) (hi : oooInv s.par g)
    (hne : ∀ x ∈ g.ooo, x.1 ≠ g.rcvNxt) :
    (deliver i seg (setSock s i g)).sock i = owing true { g with ooo := heldPast s.par seg g } ∧
      i < (deliver i seg (setSock s i g)).socks.length ∧
      Effect [i] none [] s none s (deliver i seg (setSock s i g)) := by
  have hlt' : i < (setSock s i g).socks.length := by simpa using hlt
  rw [deliver, if_neg hpay, setSock_par, sock_setSock_same s i g hlt, deliveredRecord_gap h hgap hin hi hne]
  dsimp only
  rw [if_pos rfl, setSock_setSock]
  exact ⟨sock_setSock_same _ _ _ hlt, by simpa using hlt, (Effect.refl [i] s).setSock (by simp) _⟩

end tail

/-- A segment with payload that passes the checks finds the window open, so some byte of it is new. -/
theorem freshBytes_ne_nil {k : Sock} (hp : passesAck k seg) (hold : (k.rcvNxt - seg.seq).toNat < seg.pay.length) :
    freshBytes k seg ≠ [] := by
  obtain ⟨⟨hw, -, -⟩, -, -⟩ := hp
  have hwnd : k.rcvWnd ≠ 0 := rcvWnd_ne_zero_of_acceptable (acceptable_iff.mpr hw) fun e => by simp [e] at hold
  have hpos : 0 < k.rcvWnd.toNat := Nat.pos_of_ne_zero fun e => hwnd (BitVec.eq_of_toNat_eq e)
  refine List.ne_nil_of_length_pos ?_
  rw [freshBytes, List.length_take, List.length_drop]
  omega

/-- Settles O49: the payload from `rcvNxt` on, with the run behind it. -/
theorem inOrderDataIsDelivered : Obligations.InOrderDataIsDelivered := by
  unfold Obligations.InOrderDataIsDelivered
  intro s sock ifx src dst seg h k old new hp hok hold hinv run hwaits op hop hfin base g
  obtain ⟨fin, hexec, hidle⟩ := exec_dataOp h hp hop
  replace hexec : exec op s = .next (taken sock.toNat seg fin s base) := hexec
  have hack : AckOnly k base := acked_ackOnly ..
  have hnew : new ++ run ≠ [] := fun e => freshBytes_ne_nil hp hold (List.append_eq_nil_iff.mp e).1
  have hroom := length_run_le hinv (length_freshBytes_le k seg) hwaits
  have hlen := length_pay_lt hok
  have hwnd := k.rcvWnd.isLt
  clear_value base
  obtain ⟨una, wnd, max, st, tm, rfl⟩ := hack
  obtain ⟨owed, howed, hv, hlt, effect⟩ := deliver_fresh
    (g := { k with sndUna := una, sndWnd := wnd, maxSndWnd := max, state := st, tFw2 := tm })
    (indexed_lt h) hok (Nat.le_of_lt hold) hinv hwaits fun e => absurd hold (by simp [e])
  obtain rfl := howed fun e => absurd hold (by simp [e])
  rw [taken, hidle _ ?_] at hexec
  · rw [if_neg (by exact hnew), show BitVec.ofNat 8 sock.toNat = sock by simp] at effect
    obtain ⟨record, frame, events, link⟩ := ackFlush_owed effect hlt hv
    exact ⟨_, hexec, rfl, record, frame, events, link⟩
  · rcases hfin with hf | hf | hf
    · exact .inl hf
    · exact .inr (.inl hf)
    · refine .inr (.inr fun e => hf ?_)
      rw [hv] at e
      have e : k.rcvNxt + BitVec.ofNat 32 (new ++ run).length = seg.seq + BitVec.ofNat 32 seg.pay.length := e
      rw [List.length_append] at e
      have hold' : old = (k.rcvNxt - seg.seq).toNat := rfl
      have hroom' : new.length + run.length ≤ k.rcvWnd.toNat := hroom
      clear_value old new k
      bv_omega

/-- Settles O50: the payload past a gap. -/
theorem outOfOrderDataWaits : Obligations.OutOfOrderDataWaits := by
  unfold Obligations.OutOfOrderDataWaits
  intro s sock ifx src dst seg h k gap new hp hok hpay hgap hin hinv hne op hop base
  obtain ⟨fin, hexec, hidle⟩ := exec_dataOp h hp hop
  replace hexec : exec op s = .next (taken sock.toNat seg fin s base) := hexec
  have hack : AckOnly k base := acked_ackOnly ..
  have hlen := length_pay_lt hok
  have hwnd := k.rcvWnd.isLt
  clear_value base
  obtain ⟨una, wnd, max, st, tm, rfl⟩ := hack
  obtain ⟨hv, hlt, effect⟩ := deliver_gap
    (g := { k with sndUna := una, sndWnd := wnd, maxSndWnd := max, state := st, tFw2 := tm })
    (indexed_lt h) hok hpay hgap hin hinv hne
  rw [taken, hidle _ ?_] at hexec
  · obtain ⟨record, frame, events, link⟩ := ackFlush_owed effect hlt hv
    refine ⟨_, heldPast s.par seg k, hexec, rfl, record, fun hd => ?_, fun hb => ?_,
      ⟨frame, events.trans (List.append_nil _)⟩, link⟩
    · rw [heldPast, hd]
    · obtain ⟨-, hrising, -⟩ := hinv
      have hheld : heldPast s.par seg k = holdFrom seg.seq new k.ooo := by rw [heldPast, hb]
      rw [hheld]
      refine ⟨holdFrom_rising _ _ hrising, fun q b => ?_⟩
      rw [mem_holdFrom_iff hrising]
      · simp
      · exact Nat.lt_of_le_of_lt (List.length_take_le _ _) (by omega)
  · refine .inr (.inr fun e => ?_)
    rw [hv] at e
    have e : k.rcvNxt = seg.seq + BitVec.ofNat 32 seg.pay.length := e
    have hgap' : 0 < (seg.seq - k.rcvNxt).toNat := hgap
    have hin' : (seg.seq - k.rcvNxt).toNat < k.rcvWnd.toNat := hin
    clear_value k
    bv_omega

/-- A FIN that the payload of its segment reaches, in any of the three operations that take one. -/
theorem ends_of_fin {k base shown : Sock} (h : indexed s sock ifx) (hshown : AckOnly k shown) (hack : AckOnly k base)
    (hok : segmentOk seg = true) (hf : has seg flagFIN = true) (hold : (k.rcvNxt - seg.seq).toNat ≤ seg.pay.length)
    {new : Bytes} (hnew : seg.pay.drop (k.rcvNxt - seg.seq).toNat = new) (hfit : new.length ≤ k.rcvWnd.toNat)
    (hinv : oooInv s.par k) (hwaits : waitsFrom k (k.rcvNxt + BitVec.ofNat 32 new.length) []) {op : Instr}
    {fin : State → State} (hexec : exec op s = .next (taken sock.toNat seg fin s base)) {post : TcpState}
    (hfin : ∀ v, (v.sock sock.toNat).state = base.state → fin v = finHandle sock.toNat seg post v) :
    ∃ t, exec op s = .next t ∧ t.st = 0 ∧
      t.sock sock.toNat = finTaken s.now post { takenIn new base with
        rcvNxt := k.rcvNxt + BitVec.ofNat 32 new.length + 1, ackPending := false } ∧
      tcpFrame [sock.toNat] none s t ∧ t.evq = s.evq ++ (if new = [] then [] else [⟨sock, .dataReady⟩]) ∧
      oneSegment s t k.ifx k.localAddr.word k.remoteAddr.word (ackOf s.par { takenIn new shown with
        rcvNxt := k.rcvNxt + BitVec.ofNat 32 new.length + 1, ackPending := false }) := by
  have hfresh : freshBytes k seg = new := by rw [freshBytes, hnew, List.take_of_length_le hfit]
  have hseq : k.rcvNxt + BitVec.ofNat 32 new.length = finSeq seg := by
    rw [← hnew, List.length_drop, finSeq]
    bv_omega
  obtain ⟨_, _, _, _, _, rfl⟩ := hshown
  obtain ⟨una, wnd, max, st, tm, rfl⟩ := hack
  obtain ⟨owed, -, hv, hlt, effect⟩ := deliver_fresh (run := [])
    (g := { k with sndUna := una, sndWnd := wnd, maxSndWnd := max, state := st, tFw2 := tm })
    (indexed_lt h) hok hold hinv (by rw [← hfresh] at hwaits; exact hwaits) fun _ => rfl
  have hfresh : freshBytes { k with sndUna := una, sndWnd := wnd, maxSndWnd := max, state := st, tFw2 := tm } seg =
      new := hfresh
  rw [hfresh, List.append_nil] at hv effect
  rw [show BitVec.ofNat 8 sock.toNat = sock by simp] at effect
  obtain ⟨record, frame, events, link⟩ := finHandle_taken effect hlt hv hf hseq post rfl
  rw [taken, hfin _ (by rw [hv]; rfl)] at hexec
  exact ⟨_, hexec, rfl, record, frame, events, link⟩

/-- Settles O51: the three operations that take a FIN. -/
theorem finMovesTheRecordOn : Obligations.FinMovesTheRecordOn := by
  unfold Obligations.FinMovesTheRecordOn
  intro s sock ifx src dst seg h k old new passed g ends hp hok hf hold hfit hinv hwaits
  have acked := afterAck_ackOnly seg k
  refine ⟨?_, ?_, fun hne => ?_, fun heq => ?_⟩
  · exact ends_of_fin h acked acked hok hf hold rfl hfit hinv hwaits (exec_established h hp) fun _ _ => rfl
  · exact ends_of_fin h acked acked hok hf hold rfl hfit hinv hwaits (exec_finWait2 h hp) fun _ _ => rfl
  · have hexec := exec_finWait1 (src := src) (dst := dst) h hp
    rw [if_neg (by exact hne)] at hexec
    by_cases hst : k.state = .finWait2
    · rw [if_pos hst]
      exact ends_of_fin h acked acked hok hf hold rfl hfit hinv hwaits hexec (post := .timeWait) fun v hv => by
        rw [finWait1Fin, postFin, hv, afterAck_state, if_pos hst]
    · rw [if_neg hst]
      exact ends_of_fin h acked acked hok hf hold rfl hfit hinv hwaits hexec (post := .closing) fun v hv => by
        rw [finWait1Fin, postFin, hv, afterAck_state, if_neg hst]
  · have hexec := exec_finWait1 (src := src) (dst := dst) h hp
    rw [if_pos (by exact heq)] at hexec
    exact ends_of_fin h acked (finAckedBy_ackOnly s.now seg k) hok hf hold rfl hfit hinv hwaits hexec
      (post := .timeWait) fun v hv => by
        rw [finWait1Fin, postFin, hv]
        rfl

end operations

end Sys2Proof.Proofs
end

section
/-! The register map of CRRD and CRWR (10_state.md R57): the number of a control register and the register of a
number. -/

namespace Sys2Proof.Proofs

open Machine Claims

/-- The number of a control register (10_state.md R57). -/
def regNumber : ControlReg → Nat
  | .crId => 0x00
  | .crNow => 0x01
  | .crLock => 0x02
  | .crCfg => 0x03
  | .crQlen => 0x04
  | .ifMtu => 0x10
  | .ifIpid => 0x11
  | .ifAddr k => 0x20 + 4 * k
  | .ifPlen k => 0x21 + 4 * k
  | .ifAst k => 0x22 + 4 * k
  | .ifMcast k => 0x100 + k
  | .cnt c => 0x1000 + c.toNat

/-- The tables of an interface have this register (10_state.md R57). -/
def regExists (p : Params) : ControlReg → Prop
  | .crId | .crNow | .crLock | .crCfg | .crQlen | .ifMtu | .ifIpid | .cnt _ => True
  | .ifAddr k | .ifPlen k | .ifAst k => k < p.nAddr
  | .ifMcast k => k < p.nMcast

/-- What keeps the ranges of the map apart (log 18). -/
theorem table_bounds_of_legal {p : Params} (h : p.legal = true) : p.nAddr ≤ 56 ∧ p.nMcast ≤ 3840 := by
  simp only [Params.legal, Bool.and_eq_true, decide_eq_true_eq] at h
  omega

theorem addrRegOf_spec {n : Nat} {r : ControlReg} (e : addrRegOf n = some r) :
    (r = .ifAddr (n / 4) ∧ n % 4 = 0) ∨ (r = .ifPlen (n / 4) ∧ n % 4 = 1) ∨ (r = .ifAst (n / 4) ∧ n % 4 = 2) := by
  unfold addrRegOf at e
  split_ifs at e with h0 h1 h2 <;> cases e
  · exact .inl ⟨rfl, h0⟩
  · exact .inr (.inl ⟨rfl, h1⟩)
  · exact .inr (.inr ⟨rfl, h2⟩)

/-- What a number selects is a register that exists, under its number. -/
theorem of_controlRegOf {p : Params} {y : Half} {r : ControlReg} (e : controlRegOf p y = some r) :
    regExists p r ∧ y.toNat = regNumber r := by
  unfold controlRegOf at e
  dsimp only at e
  split_ifs at e with h0 h1 h2 h3 h4 h10 h11 haddr hmcast hcnt
  iterate 7
    · cases e
      exact ⟨trivial, ‹_›⟩
  · rcases addrRegOf_spec e with ⟨rfl, hm⟩ | ⟨rfl, hm⟩ | ⟨rfl, hm⟩ <;> simp only [regExists, regNumber] <;> omega
  · cases e
    simp only [regExists, regNumber]
    omega
  · cases e
    simp only [regExists, regNumber, BitVec.toNat_ofNat, true_and]
    omega

theorem addrRegOf_number (k : Nat) :
    addrRegOf (4 * k) = some (.ifAddr k) ∧ addrRegOf (4 * k + 1) = some (.ifPlen k) ∧
      addrRegOf (4 * k + 2) = some (.ifAst k) := by
  have div (j : Nat) (hj : j < 4) : (4 * k + j) / 4 = k ∧ (4 * k + j) % 4 = j := by omega
  refine ⟨?_, ?_, ?_⟩
  · simp [addrRegOf]
  · simp [addrRegOf, div 1]
  · simp [addrRegOf, div 2]

/-- The ranges of the map do not overlap, so a number selects the register it is the number of. -/
theorem controlRegOf_regNumber {p : Params} (hp : p.legal = true) {y : Half} {r : ControlReg} (hr : regExists p r)
    (hy : y.toNat = regNumber r) : controlRegOf p y = some r := by
  obtain ⟨haddr, hmcast⟩ := table_bounds_of_legal hp
  have entry (k j : Nat) (hk : k < p.nAddr) (hj : j < 3) (h : y.toNat = 0x20 + (4 * k + j)) :
      controlRegOf p y = addrRegOf (4 * k + j) := by
    unfold controlRegOf
    dsimp only
    rw [h]
    iterate 7 rw [if_neg (by omega)]
    rw [if_pos (by omega), Nat.add_sub_cancel_left]
  cases r with
  | ifAddr k => exact (entry k 0 hr (by decide) hy).trans (addrRegOf_number k).1
  | ifPlen k =>
    exact (entry k 1 hr (by decide) (by rw [hy, regNumber]; omega)).trans (addrRegOf_number k).2.1
  | ifAst k =>
    exact (entry k 2 hr (by decide) (by rw [hy, regNumber]; omega)).trans (addrRegOf_number k).2.2
  | ifMcast k =>
    have hk : k < p.nMcast := hr
    unfold controlRegOf
    dsimp only
    rw [hy, regNumber]
    iterate 8 rw [if_neg (by omega)]
    rw [if_pos (by omega), Nat.add_sub_cancel_left]
  | cnt c =>
    have hc := c.isLt
    unfold controlRegOf
    dsimp only
    rw [hy, regNumber]
    iterate 9 rw [if_neg (by omega)]
    rw [if_pos (by omega), Nat.add_sub_cancel_left, BitVec.ofNat_toNat, BitVec.setWidth_eq]
  | _ =>
    unfold controlRegOf
    rw [hy]
    rfl

/-- A register of no interface, or one of an interface, by its number (10_state.md R57). -/
theorem reg_of_number {p : Params} {r : ControlReg} {y : Half} (hr : regExists p r) (hy : y.toNat = regNumber r) :
    if r.perIface then ifaceReg p y else globalReg y := by
  unfold ifaceReg globalReg
  rw [hy]
  cases r with
  | cnt c => exact .inr ⟨Nat.le_add_right .., Nat.add_lt_add_left c.isLt _⟩
  | ifMtu => exact .inl rfl
  | ifIpid => exact .inr (.inl rfl)
  | ifAddr k => exact .inr (.inr (.inl ⟨k, hr, .inl rfl⟩))
  | ifPlen k => exact .inr (.inr (.inl ⟨k, hr, .inr (.inl rfl)⟩))
  | ifAst k => exact .inr (.inr (.inl ⟨k, hr, .inr (.inr rfl)⟩))
  | ifMcast k => exact .inr (.inr (.inr ⟨k, hr, rfl⟩))
  | _ => exact .inl (by decide)

/-- The operand test of CRRD lets through a register that exists, on an interface that exists where it needs one
(45_host_ops.md R284). -/
theorem controlRegOperand_eq_some {s : State} {i : Byte} {y : Half} {r : ControlReg}
    (e : controlRegOperand s i y = some r) :
    regExists s.par r ∧ y.toNat = regNumber r ∧ (r.perIface = true → i.toNat < s.par.nIf) := by
  unfold controlRegOperand at e
  split at e
  case h_1 r' hr =>
    split_ifs at e with hi
    cases e
    obtain ⟨hex, hy⟩ := of_controlRegOf hr
    refine ⟨hex, hy, fun hp => ?_⟩
    simpa [hp, State.hasIface] using hi
  case h_2 => cases e

theorem controlRegOperand_regNumber {s : State} (hp : s.par.legal = true) {i : Byte} {y : Half} {r : ControlReg}
    (hr : regExists s.par r) (hy : y.toNat = regNumber r) (hi : r.perIface = true → i.toNat < s.par.nIf) :
    controlRegOperand s i y = some r := by
  unfold controlRegOperand
  rw [controlRegOf_regNumber hp hr hy]
  refine if_neg ?_
  cases h : r.perIface
  · simp
  · simp [State.hasIface, hi h]

/-- The status a CRWR names is the one with that code (10_state.md R28). -/
theorem ofOperand_code (st : AddrStatus) : AddrStatus.ofOperand (st.code.setWidth 32) = some st := by
  cases st <;> rfl

theorem le_two_of_ofOperand {v : Word} {st : AddrStatus} (e : AddrStatus.ofOperand v = some st) : v.toNat ≤ 2 := by
  unfold AddrStatus.ofOperand at e
  split_ifs at e with h0 h1 h2
  · simp [h0]
  · simp [h1]
  · simp [h2]

/-- The values that a register takes (10_state.md R57). -/
def valueLegal (v : Word) : ControlReg → Prop
  | .ifMtu => 68 ≤ v.toNat ∧ v.toNat ≤ 65535
  | .ifPlen _ => v.toNat ≤ 32
  | .ifAst _ => v.toNat ≤ 2
  | .ifMcast _ => v = 0 ∨ multicast v
  | .crId | .crNow | .crLock | .crCfg | .crQlen | .ifIpid | .ifAddr _ | .cnt _ => True

theorem legalValue_of_valueLegal {p : Params} (hp : p.legal = true) {y : Half} {v : Word} {r : ControlReg}
    (hr : regExists p r) (hy : y.toNat = regNumber r) (hv : valueLegal v r) : legalValue p y v := by
  have same {r' : ControlReg} (hr' : regExists p r') (hy' : y.toNat = regNumber r') : valueLegal v r' :=
    Option.some.inj ((controlRegOf_regNumber hp hr hy).symm.trans (controlRegOf_regNumber hp hr' hy')) ▸ hv
  exact ⟨fun h => same (r' := .ifMtu) trivial h, fun k hk h => same (r' := .ifPlen k) hk h,
    fun k hk h => same (r' := .ifAst k) hk h, fun k hk h => same (r' := .ifMcast k) hk h⟩

/-- CRWR writes a register of an interface only, and a value that is legal for it (45_host_ops.md R285). -/
theorem controlWrite_eq_some {f g : Iface} {v : Word} {r : ControlReg} (e : controlWrite f v r = some g) :
    r.perIface = true ∧ valueLegal v r := by
  cases r with
  | ifMtu =>
    by_cases hv : 68 ≤ v.toNat ∧ v.toNat ≤ 65535
    · exact ⟨rfl, hv⟩
    · cases (if_neg hv).symm.trans e
  | ifIpid => exact ⟨rfl, trivial⟩
  | ifAddr k => exact ⟨rfl, trivial⟩
  | ifPlen k =>
    by_cases hv : v.toNat ≤ 32
    · exact ⟨rfl, hv⟩
    · cases (if_neg hv).symm.trans e
  | ifAst k =>
    obtain ⟨st, hst, -⟩ := Option.map_eq_some_iff.mp e
    exact ⟨rfl, le_two_of_ofOperand hst⟩
  | ifMcast k =>
    by_cases hv : v = 0 ∨ isMcast v = true
    · exact ⟨rfl, hv.imp_right isMcast_iff.mp⟩
    · cases (if_neg hv).symm.trans e
  | _ => cases e

theorem controlWriteOperand_legal {s : State} (hp : s.par.legal = true) {i : Byte} {y : Half}
    (h : (controlWriteOperand s i y).isSome = true) :
    ifaceReg s.par y ∧ i.toNat < s.par.nIf ∧ legalValue s.par y (s.reg 0) := by
  obtain ⟨g, hg⟩ := Option.isSome_iff_exists.mp h
  obtain ⟨r, hr, hw⟩ := Option.bind_eq_some_iff.mp hg
  obtain ⟨hex, hy, hi⟩ := controlRegOperand_eq_some hr
  obtain ⟨hper, hv⟩ := controlWrite_eq_some hw
  exact ⟨by simpa [hper] using reg_of_number hex hy, hi hper, legalValue_of_valueLegal hp hex hy hv⟩

theorem controlRegOperand_legal {s : State} {i : Byte} {y : Half} (h : (controlRegOperand s i y).isSome = true) :
    globalReg y ∨ (ifaceReg s.par y ∧ i.toNat < s.par.nIf) := by
  obtain ⟨r, hr⟩ := Option.isSome_iff_exists.mp h
  obtain ⟨hex, hy, hi⟩ := controlRegOperand_eq_some hr
  have hreg := reg_of_number hex hy
  cases hper : r.perIface
  · exact .inl (by simpa [hper] using hreg)
  · exact .inr ⟨by simpa [hper] using hreg, hi hper⟩

end Sys2Proof.Proofs
end

section
/-! The three checks before a command (45_host_ops.md R282), for all commands: the lock, the registers, the values. -/

namespace Sys2Proof.Proofs

open Machine Claims

/-- SKRD takes the field numbers below 30: the fields stand in the order of the table (10_state.md R58). -/
theorem sockField_eq (k : Sock) (y : Half) : sockField k y = (fieldTable k)[y.toNat]? := by
  unfold sockField
  generalize y.toNat = n
  rcases Nat.lt_or_ge n 30 with h | h
  · interval_cases n <;> rfl
  · obtain ⟨m, rfl⟩ := Nat.exists_eq_add_of_le' h
    rfl

theorem isSome_sockField (k : Sock) (y : Half) : (sockField k y).isSome = true ↔ y.toNat ≤ 29 := by
  rw [Option.isSome_iff_ne_none, sockField_eq, ne_eq, List.getElem?_eq_none_iff, Nat.not_le]
  exact Nat.lt_succ_iff

theorem bindOperandOk_iff {s : State} : bindOperandOk s = true ↔ s.reg 1 = 0xFF ∨ (s.reg 1).toNat < s.par.nIf := by
  simp [bindOperandOk]

theorem backlogOk_iff {s : State} {y : Half} : backlogOk s y = true ↔ 1 ≤ y.toNat ∧ y.toNat ≤ s.par.synqMax := by
  simp [backlogOk]

theorem connectOperandOk_iff {s : State} {y : Half} :
    connectOperandOk s y = true ↔ y ≠ 0 ∧ s.reg 0 ≠ 0 ∧ (s.reg 2).toNat < s.par.nIf := by
  simp [connectOperandOk, and_assoc]

theorem hasSock_iff {s : State} {k : Byte} : s.hasSock k = true ↔ k.toNat < s.par.nSock := decide_eq_true_iff

theorem hasIface_iff {s : State} {i : Byte} : s.hasIface i = true ↔ i.toNat < s.par.nIf := decide_eq_true_iff

theorem isSome_regIndex {i : Byte} (h : (regIndex i).isSome = true) : i.toNat ≤ 7 := by
  unfold regIndex at h
  split at h
  · omega
  · cases h

theorem ofOperand_legal {y : Half} (h : (SockType.ofOperand y).isSome = true) : y = 1 ∨ y = 2 ∨ y = 3 := by
  unfold SockType.ofOperand at h
  split_ifs at h with h1 h2 h3
  · exact .inl h1
  · exact .inr (.inl h2)
  · exact .inr (.inr h3)
  · cases h

theorem queuesOf_legal {q : Byte} (h : (queuesOf q).isSome = true) : q = 0 ∨ q = 1 ∨ q = 2 ∨ q = 3 ∨ q = 0xFF := by
  unfold queuesOf at h
  split_ifs at h with h0 h1 h2 h3 h4
  · exact .inl h0
  · exact .inr (.inl h1)
  · exact .inr (.inr (.inl h2))
  · exact .inr (.inr (.inr (.inl h3)))
  · exact .inr (.inr (.inr (.inr h4)))
  · cases h

theorem toList_regIndex (i : Byte) : (regIndex i).toList = operandRegs (.geta i) := by
  by_cases h : i.toNat < 8 <;> simp [regIndex, operandRegs, h]

/-- `x` runs behind the checks of its command, with `g` as the test of its values. -/
def RunsChecked (x : Instr) (s : State) (g : Bool) : Prop :=
  ∃ body, exec x s = .next (runCommand s (needsLock x) (operandRegs x) g body)

/-- Every command makes the checks of 45_host_ops.md R282, with a test of its values that lets only legal ones
through. -/
theorem exec_runsChecked {x : Instr} (hx : x.isCommand = true) (s : State) :
    ∃ g, RunsChecked x s g ∧ (s.par.legal = true → g = true → operandsLegal s x) := by
  cases x with
  | nop | lock | unlock | csum | csumx | csumul | tcptick | tick => exact ⟨true, ⟨_, rfl⟩, fun _ _ => trivial⟩
  | iprx | iptx | fragtick | lookupt | lookupu => exact ⟨_, ⟨_, rfl⟩, fun _ => hasIface_iff.mp⟩
  | crrd => exact ⟨_, ⟨_, rfl⟩, fun _ => controlRegOperand_legal⟩
  | crwr => exact ⟨_, ⟨_, rfl⟩, fun hp => controlWriteOperand_legal hp⟩
  | skrd =>
    exact ⟨_, ⟨_, rfl⟩, fun _ h => (Bool.and_eq_true_iff.mp h).imp hasSock_iff.mp (isSome_sockField ..).mp⟩
  | seta => exact ⟨_, ⟨_, rfl⟩, fun _ => isSome_regIndex⟩
  | geta i => exact ⟨_, ⟨_, by rw [← toList_regIndex]; rfl⟩, fun _ => isSome_regIndex⟩
  | drain => exact ⟨_, ⟨_, rfl⟩, fun _ => queuesOf_legal⟩
  | sopen => exact ⟨_, ⟨_, rfl⟩, fun _ => ofOperand_legal⟩
  | sbind =>
    exact ⟨_, ⟨_, rfl⟩, fun _ h => (Bool.and_eq_true_iff.mp h).imp hasSock_iff.mp bindOperandOk_iff.mp⟩
  | slisten =>
    exact ⟨_, ⟨_, rfl⟩, fun _ h => (Bool.and_eq_true_iff.mp h).imp hasSock_iff.mp backlogOk_iff.mp⟩
  | sconnect =>
    exact ⟨_, ⟨_, rfl⟩, fun _ h => (Bool.and_eq_true_iff.mp h).imp hasSock_iff.mp connectOperandOk_iff.mp⟩
  | saccept | sshut | sclose => exact ⟨_, ⟨_, rfl⟩, fun _ => hasSock_iff.mp⟩
  | srecv k most =>
    refine ⟨_, ⟨_, rfl⟩, fun _ h => ?_⟩
    obtain ⟨hk, hm⟩ := Bool.and_eq_true_iff.mp h
    exact ⟨hasSock_iff.mp hk, Nat.one_le_iff_ne_zero.mpr fun h0 => of_decide_eq_true hm (BitVec.eq_of_toNat_eq h0)⟩
  | _ => cases hx

/-- Only a command asks for the lock (45_host_ops.md R282). -/
theorem isCommand_of_needsLock {x : Instr} (h : needsLock x = true) : x.isCommand = true := by
  cases x with
  | pshdr | ipdemux | reasm | ipfrag | tcprx | tcpsClosed | tcpsListen | tcpsSynSent | tcpsSynRcvd | tcpsEstablished
  | tcpsCloseWait | tcpsLastAck | tcpsFinWait1 | tcpsFinWait2 | tcpsClosing | tcpsTimeWait => cases h
  | _ => rfl

/-- Settles O9: the lock is the first check of every command. -/
theorem lockNotHeldIsRefused : Obligations.LockNotHeldIsRefused := by
  unfold Obligations.LockNotHeldIsRefused
  intro x s hx hl
  obtain ⟨g, ⟨body, hrun⟩, -⟩ := exec_runsChecked (isCommand_of_needsLock hx) s
  rw [hrun, runCommand, if_pos ⟨hx, hl⟩]
  rfl

/-- Settles O10: the second check asks for the registers, and the third lets only legal values through. -/
theorem badOperandIsRefused : Obligations.BadOperandIsRefused := by
  unfold Obligations.BadOperandIsRefused
  intro x s hx hp hl hbad
  obtain ⟨g, ⟨body, hrun⟩, hlegal⟩ := exec_runsChecked hx s
  rw [hrun, runCommand, if_neg fun h => h.2 (hl h.1)]
  rcases hbad with ⟨r, hr, hnone⟩ | hvalue
  · have unwritten : (operandRegs x).all s.written = false :=
      List.all_eq_false.mpr ⟨r, hr, by simpa [State.written] using hnone⟩
    rw [if_pos unwritten]
    rfl
  · have illegal : g = false := Bool.eq_false_iff.mpr fun h => hvalue (hlegal hp h)
    rw [if_pos illegal, ite_self]
    rfl

end Sys2Proof.Proofs
end

section
/-! The commands on the lock, the operand registers, the control registers, the records and the queues
(45_host_ops.md R280, R281, R284 to R289, R298). -/

namespace Sys2Proof.Proofs

open Machine Claims

/-- A command of the holder of the lock runs once its operands pass (45_host_ops.md R282). -/
theorem runCommand_held {s : State} (hl : s.lock = .held s.tid) {rs : List (Fin 8)} (hr : rs.all s.written = true)
    {g : Bool} (hg : g = true) (b : State → State) : runCommand s true rs g b = b (setR0 s 0) :=
  runCommand_runs s _ _ _ _ (fun _ => hl) hr hg

/-! The lock and the operand registers. -/

theorem regIndex_ofNat (r : Fin 8) : regIndex (BitVec.ofNat 8 r.val) = some r := by
  have h : (BitVec.ofNat 8 r.val).toNat = r.val := Nat.mod_eq_of_lt (r.isLt.trans (by decide))
  simp only [regIndex, h, r.isLt, dite_true, Fin.eta]

theorem regIndex_eq_none {i : Byte} (h : 7 < i.toNat) : regIndex i = none := dif_neg (Nat.not_lt.mpr h)

section port
variable {s : State}

theorem exec_lock_free (h : s.lock = .free) :
    exec .lock s = .next { s with lock := .held s.tid, r0 := 0, st := 0 } := by
  have run : exec .lock s = .next (done (setLock (setR0 s 0) (.held s.tid)) .ok) := by
    simp only [exec, execLock, runCommand_free, setR0_lock, setR0_tid, h]
  exact run

/-- The lock is not recursive: who holds it does not matter (45_host_ops.md R280). -/
theorem exec_lock_held {t : Byte} (h : s.lock = .held t) :
    exec .lock s = .next { s with r0 := t.setWidth 32, st := 0x54 } := by
  have run : exec .lock s = .next (done (setR0 (setR0 s 0) (t.setWidth 32)) .lockBusy) := by
    simp only [exec, execLock, runCommand_free, setR0_lock, h]
  exact run

theorem exec_unlock_holder (h : s.lock = .held s.tid) :
    exec .unlock s = .next { s with lock := .free, r0 := 0, st := 0 } := by
  simp only [exec, execUnlock, runCommand_free]
  exact congrArg _ (if_pos h)

theorem exec_unlock_other (h : s.lock ≠ .held s.tid) : exec .unlock s = .next (refused s .lockNotHeld) := by
  simp only [exec, execUnlock, runCommand_free]
  exact congrArg _ (if_neg h)

theorem exec_seta (r : Fin 8) (v : Word) :
    exec (.seta (BitVec.ofNat 8 r.val) v) s = .next { s with a := s.a.set r (some v), r0 := 0, st := 0 } := by
  simp only [exec, execSeta, regIndex_ofNat]
  exact congrArg _ (runCommand_free ..)

theorem exec_geta {r : Fin 8} {v : Word} (h : s.a[r] = some v) :
    exec (.geta (BitVec.ofNat 8 r.val)) s = .next { s with r0 := v, st := 0 } := by
  have written : [r].all s.written = true := by simp [written_of_eq_some h]
  simp only [exec, execGeta, regIndex_ofNat, Option.toList_some, Option.isSome_some]
  rw [runCommand_result written fun u => u.reg r, setR0_reg, reg_of_eq_some h]

end port

/-- Settles O16: each command passes its checks or is refused by the first that fails, and writes what its rule
says. -/
theorem portCommandResults : Obligations.PortCommandResults := by
  unfold Obligations.PortCommandResults
  intro s
  refine ⟨rfl, exec_lock_free, fun _ h => exec_lock_held h, exec_unlock_holder, exec_unlock_other,
    fun r v => ⟨exec_seta r v, exec_geta, fun h => ?_⟩, fun i v h => ⟨?_, ?_⟩⟩
  · have unwritten : [r].all s.written = false := by simp [State.written, h]
    simp only [exec, execGeta, regIndex_ofNat]
    exact congrArg _ ((if_neg (by simp)).trans (if_pos unwritten))
  · simp only [exec, execSeta, regIndex_eq_none h]
    exact congrArg _ (runCommand_illegal (l := false) (fun h => nomatch h) ..)
  · simp only [exec, execGeta, regIndex_eq_none h]
    exact congrArg _ (runCommand_illegal (l := false) (fun h => nomatch h) ..)

/-! The control registers. -/

section control
variable {s : State} {i : Byte} {y : Half} {r : ControlReg}

theorem controlRead_setR0 (v : Word) (n : Nat) : controlRead (setR0 s v) n r = controlRead s n r := by
  cases r <;> rfl

theorem exec_crrd (hl : s.lock = .held s.tid) (hr : controlRegOperand s i y = some r) :
    exec (.crrd i y) s = .next { s with r0 := controlRead s i.toNat r, st := 0 } := by
  simp only [exec, execCrrd]
  rw [runCommand_held hl rfl (Option.isSome_of_eq_some hr)]
  simp only [controlRegOperand_setR0, hr, controlRead_setR0]
  rfl

theorem exec_crwr {v : Word} {g : Iface} (hl : s.lock = .held s.tid) (h0 : s.a[(0 : Fin 8)] = some v)
    (hr : controlRegOperand s i y = some r) (hw : controlWrite (s.iface i.toNat) v r = some g) :
    exec (.crwr i y) s = .next { s with ifs := s.ifs.set i.toNat g, r0 := 0, st := 0 } := by
  have written : [0].all s.written = true := by simp [written_of_eq_some h0]
  have operand : controlWriteOperand s i y = some g := by
    rw [controlWriteOperand, hr, reg_of_eq_some h0]
    exact hw
  simp only [exec, execCrwr]
  rw [runCommand_held hl written (Option.isSome_of_eq_some operand)]
  simp only [controlWriteOperand_setR0, operand]
  rfl

end control

/-- A register number in sixteen bits. -/
theorem regNumber_lt {p : Params} (hp : p.legal = true) {r : ControlReg} (hr : regExists p r) :
    regNumber r < 2 ^ 16 := by
  obtain ⟨haddr, hmcast⟩ := table_bounds_of_legal hp
  cases r with
  | cnt c => exact (Nat.add_lt_add_left c.isLt _).trans (by decide)
  | ifAddr k | ifPlen k | ifAst k | ifMcast k =>
    simp only [regExists] at hr
    simp only [regNumber]
    omega
  | _ => decide

/-- `CR_CFG` shows the four parameters in its low bits (10_state.md R57). -/
theorem configWord_bits (p : Params) : (configWord p).toNat < 16 ∧ (configWord p).getLsbD 0 = p.forwarding ∧
    (configWord p).getLsbD 1 = p.synCheckCloses ∧ (configWord p).getLsbD 2 = decide (p.tcpOoo = .buffer) ∧
    (configWord p).getLsbD 3 = decide (p.csumPreset = 0xFFFF) := by
  unfold configWord
  cases p.forwarding <;> cases p.synCheckCloses <;> by_cases h2 : p.tcpOoo = .buffer <;>
    by_cases h3 : p.csumPreset = 0xFFFF#16 <;> simp [h2, h3]

theorem saturated_eq (n : Nat) : saturated n = (BitVec.ofNat 8 (min n 255)).setWidth 32 := by
  apply BitVec.eq_of_toNat_eq
  simp [saturated]

/-- Four bytes in one word, each read back from its place. -/
theorem extract_four_bytes (a b c d : Byte) :
    let v : Word := a.setWidth 32 ||| b.setWidth 32 <<< 8 ||| c.setWidth 32 <<< 16 ||| d.setWidth 32 <<< 24
    v.extractLsb' 0 8 = a ∧ v.extractLsb' 8 8 = b ∧ v.extractLsb' 16 8 = c ∧ v.extractLsb' 24 8 = d := by
  intro v
  refine ⟨?_, ?_, ?_, ?_⟩ <;> ext i hi <;>
    simp (disch := omega) [v, decide_eq_true, decide_eq_false, BitVec.getLsbD_eq_getElem]

/-- `CR_QLEN` shows the four queue lengths, a byte each (10_state.md R57). -/
theorem queueWord_bytes (s : State) :
    (queueWord s).extractLsb' 0 8 = BitVec.ofNat 8 (min s.txq.length 255) ∧
    (queueWord s).extractLsb' 8 8 = BitVec.ofNat 8 (min s.icmpq.length 255) ∧
    (queueWord s).extractLsb' 16 8 = BitVec.ofNat 8 (min s.evq.length 255) ∧
    (queueWord s).extractLsb' 24 8 = BitVec.ofNat 8 (min s.upq.length 255) := by
  simp only [queueWord, saturated_eq]
  exact extract_four_bytes ..

theorem toNat_regNumber {p : Params} (hp : p.legal = true) {r : ControlReg} (hr : regExists p r) :
    (BitVec.ofNat 16 (regNumber r)).toNat = regNumber r :=
  Nat.mod_eq_of_lt (regNumber_lt hp hr)

/-- Settles O17: each number selects its register, which reads as the map gives it. -/
theorem crrdReadsEveryRegister : Obligations.CrrdReadsEveryRegister := by
  unfold Obligations.CrrdReadsEveryRegister
  intro s i hp hl reads
  have reg (r : ControlReg) (hr : regExists s.par r) (hi : r.perIface = true → i.toNat < s.par.nIf) :
      reads (regNumber r) (controlRead s i.toNat r) :=
    exec_crrd hl (controlRegOperand_regNumber hp hr (toNat_regNumber hp hr) hi)
  have lockShown : controlRead s i.toNat .crLock = 0x100#32 ||| s.tid.setWidth 32 := by
    rw [controlRead, hl, lockWord]
  refine ⟨reg .crId trivial nofun, reg .crNow trivial nofun, lockShown ▸ reg .crLock trivial nofun,
    ⟨_, reg .crCfg trivial nofun, configWord_bits s.par⟩, ⟨_, reg .crQlen trivial nofun, queueWord_bytes s⟩,
    fun c => reg (.cnt c) trivial nofun, fun hi => ⟨reg .ifMtu trivial fun _ => hi, reg .ifIpid trivial fun _ => hi,
      fun k hk => ⟨reg (.ifAddr k) hk fun _ => hi, reg (.ifPlen k) hk fun _ => hi, reg (.ifAst k) hk fun _ => hi⟩,
      fun k hk => reg (.ifMcast k) hk fun _ => hi⟩⟩

/-- Settles O18: each number selects its register, and a legal value is written to its field. -/
theorem crwrWritesEveryRegister : Obligations.CrwrWritesEveryRegister := by
  unfold Obligations.CrwrWritesEveryRegister
  intro s i v hp hl hi h0 f writes
  have reg (r : ControlReg) (hr : regExists s.par r) {g : Iface} (hw : controlWrite f v r = some g) :
      writes (regNumber r) g :=
    exec_crwr hl h0 (controlRegOperand_regNumber hp hr (toNat_regNumber hp hr) fun _ => hi) hw
  refine ⟨fun hlo hhi => reg .ifMtu trivial (if_pos ⟨hlo, hhi⟩), reg .ifIpid trivial rfl, fun k hk =>
    ⟨reg (.ifAddr k) hk rfl, fun hv => reg (.ifPlen k) hk (if_pos hv), fun st hv => ?_⟩, fun k hk hv => ?_⟩
  · have code : AddrStatus.ofOperand v = some st := hv ▸ ofOperand_code st
    exact reg (.ifAst k) hk (by rw [controlWrite, code]; rfl)
  · exact reg (.ifMcast k) hk (if_pos (hv.imp_right isMcast_iff.mpr))

/-! The records, the queues and the pseudo-header. -/

/-- Settles O19: the operand test is the length of the table of fields. -/
theorem skrdReadsEveryField : Obligations.SkrdReadsEveryField := by
  unfold Obligations.SkrdReadsEveryField
  intro s sock y hl hk
  simp only [exec, execSkrd, hasSock_iff.mpr hk, Bool.true_and]
  split
  case isTrue hy =>
    rw [runCommand_held hl rfl ((isSome_sockField ..).mpr (Nat.le_of_lt_succ hy)), setR0_sock, sockField_eq,
      ← List.getD_eq_getElem?_getD]
    rfl
  case isFalse hy =>
    have refuses : (sockField (s.sock sock.toNat) y).isSome = false :=
      Bool.eq_false_iff.mpr fun h => hy (Nat.lt_succ_of_le ((isSome_sockField ..).mp h))
    rw [refuses, runCommand_illegal fun _ => hl]

theorem queuesOf_eq_none {q : Byte} (h : q ∉ [0x00#8, 0x01#8, 0x02#8, 0x03#8, 0xFF#8]) : queuesOf q = none := by
  cases e : queuesOf q with
  | none => rfl
  | some x => exact absurd (queuesOf_legal (Option.isSome_of_eq_some e)) (by simpa using h)

theorem exec_drain {s : State} (hl : s.lock = .held s.tid) {q : Byte} {x : QueueSet} (hq : queuesOf q = some x) :
    exec (.drain q) s = .next (done (drained x s) .ok) := by
  simp only [exec, execDrain]
  rw [runCommand_held hl rfl (Option.isSome_of_eq_some hq), hq]
  rfl

/-- Settles O20: each selector names its queues, and the others none. -/
theorem drainAndPseudoHeaderOutputs : Obligations.DrainAndPseudoHeaderOutputs := by
  unfold Obligations.DrainAndPseudoHeaderOutputs
  refine ⟨fun _ _ _ _ _ => rfl, fun s hl => ⟨fun q hq => ?_, ?_, ?_, ?_, ?_, ?_⟩⟩
  · simp only [exec, execDrain, queuesOf_eq_none hq]
    exact congrArg _ (runCommand_illegal (fun _ => hl) ..)
  · exact exec_drain hl (q := 0) (x := ⟨true, false, false, false⟩) rfl
  · rw [exec_drain hl (x := ⟨false, true, false, false⟩) rfl]
    simp [drained, Machine.taken, kept, done, Cause.code]
  · rw [exec_drain hl (x := ⟨false, false, true, false⟩) rfl]
    simp [drained, Machine.taken, kept, done, Cause.code]
  · rw [exec_drain hl (x := ⟨false, false, false, true⟩) rfl]
    simp [drained, Machine.taken, kept, done, Cause.code]
  · exact exec_drain hl (q := 0xFF) (x := ⟨true, true, true, true⟩) rfl

end Sys2Proof.Proofs
end

section
/-! The socket operations without a segment (45_host_ops.md R290 to R292, R297): SOPEN, SBIND, SLISTEN, SRECV. -/

namespace Sys2Proof.Proofs

open Machine Claims

/-! Records. -/

section records
variable {s : State} {i : Nat}

/-- A record that is in use is in the table. -/
theorem lt_of_type_ne_unused (h : (s.sock i).type ≠ .unused) : i < s.socks.length := by
  by_contra hi
  exact h (by rw [State.sock, List.getD_eq_default _ _ (Nat.not_lt.mp hi)]; rfl)

theorem heldStream_used {k : Sock} (h : heldStream k) : k.type ≠ .unused := by
  rw [h.1]
  decide

theorem bound_iff {k : Sock} : k.bound = true ↔ boundStream k := by
  simp [Sock.bound, boundStream, heldStream, and_assoc]

theorem bound_eq_false {k : Sock} (h : ¬ boundStream k) : k.bound = false :=
  Bool.eq_false_iff.mpr fun hb => h (bound_iff.mp hb)

/-- The test with which the operations on a connection begin (45_host_ops.md R294, R295, R297). -/
theorem not_heldStream_iff {k : Sock} : k.type ≠ .stream ∨ k.owned = false ↔ ¬ heldStream k := by
  rw [heldStream, not_and_or, Bool.not_eq_true]

theorem freeSock_of_leastFree {n : Nat} (h : leastFree s n) : freeSock s = some n := by
  obtain ⟨hn, hfree, hleast⟩ := h
  exact findIdx_socks_eq_some_iff.mpr
    ⟨⟨hn, decide_eq_true hfree⟩, fun m hm ⟨_, hf⟩ => hleast m hm (of_decide_eq_true hf)⟩

theorem freeSock_of_tableFull (h : tableFull s) : freeSock s = none :=
  findIdx_socks_eq_none_iff.mpr fun m ⟨hm, hf⟩ => h m hm (of_decide_eq_true hf)

@[simp] theorem freeSock_setR0 (s : State) (v : Word) : freeSock (setR0 s v) = freeSock s := rfl

end records

section commands
variable {s : State} {sock : Byte} (hl : s.lock = .held s.tid)
include hl

theorem exec_sopen {y : Half} {t : SockType} (ht : SockType.ofOperand y = some t) :
    exec (.sopen y) s = .next (sockOpen t (setR0 s 0)) := by
  simp only [exec, execSopen, ht]
  exact congrArg _ (runCommand_held hl rfl rfl _)

theorem exec_sopen_refused {y : Half} (hy : y ∉ [0x0001#16, 0x0002#16, 0x0003#16]) :
    exec (.sopen y) s = .next (refused s .badOperand) := by
  have unknown : (SockType.ofOperand y).isSome = false :=
    Bool.eq_false_iff.mpr fun h => hy (by simpa using ofOperand_legal h)
  simp only [exec, execSopen, unknown]
  exact congrArg _ (runCommand_illegal (fun _ => hl) ..)

variable (hk : sock.toNat < s.par.nSock)
include hk

theorem exec_slisten {y : Half} (hy : 1 ≤ y.toNat ∧ y.toNat ≤ s.par.synqMax) :
    exec (.slisten sock y) s = .next (sockListen sock.toNat y (setR0 s 0)) :=
  congrArg _ (runCommand_held hl rfl (Bool.and_eq_true_iff.mpr ⟨hasSock_iff.mpr hk, backlogOk_iff.mpr hy⟩) _)

omit hk in
theorem exec_slisten_refused {y : Half} (hy : y.toNat = 0 ∨ s.par.synqMax < y.toNat) :
    exec (.slisten sock y) s = .next (refused s .badOperand) := by
  have illegal : (s.hasSock sock && backlogOk s y) = false := Bool.eq_false_iff.mpr fun h => by
    have := backlogOk_iff.mp (Bool.and_eq_true_iff.mp h).2
    omega
  simp only [exec, execSlisten, illegal]
  exact congrArg _ (runCommand_illegal (fun _ => hl) ..)

theorem exec_srecv {most : Half} (hm : most ≠ 0) :
    exec (.srecv sock most) s = .next (sockRecv sock.toNat most (setR0 s 0)) :=
  congrArg _ (runCommand_held hl rfl (Bool.and_eq_true_iff.mpr ⟨hasSock_iff.mpr hk, decide_eq_true hm⟩) _)

theorem exec_sshut : exec (.sshut sock) s = .next (sockShut sock.toNat (setR0 s 0)) :=
  congrArg _ (runCommand_held hl rfl (hasSock_iff.mpr hk) _)

theorem exec_sclose : exec (.sclose sock) s = .next (sockClose sock.toNat (setR0 s 0)) :=
  congrArg _ (runCommand_held hl rfl (hasSock_iff.mpr hk) _)

theorem exec_saccept {iss : Word} (h1 : s.a[(1 : Fin 8)] = some iss) :
    exec (.saccept sock) s = .next (sockAccept sock.toNat (setR0 s 0)) :=
  congrArg _ (runCommand_held hl (by simp [written_of_eq_some h1]) (hasSock_iff.mpr hk) _)

theorem exec_sbind (port : Half) {la b : Word} (h0 : s.a[(0 : Fin 8)] = some la) (h1 : s.a[(1 : Fin 8)] = some b)
    (hb : b = 0xFF ∨ b.toNat < s.par.nIf) :
    exec (.sbind sock port) s = .next (sockBind sock.toNat port (setR0 s 0)) := by
  have operand : bindOperandOk s = true := bindOperandOk_iff.mpr (by rwa [reg_of_eq_some h1])
  exact congrArg _ (runCommand_held hl (by simp [written_of_eq_some h0, written_of_eq_some h1])
    (Bool.and_eq_true_iff.mpr ⟨hasSock_iff.mpr hk, operand⟩) _)

omit hk in
theorem exec_sbind_refused (port : Half) {b : Word} (h1 : s.a[(1 : Fin 8)] = some b) (hff : b ≠ 0xFF)
    (hif : s.par.nIf ≤ b.toNat) : exec (.sbind sock port) s = .next (refused s .badOperand) := by
  have illegal : (s.hasSock sock && bindOperandOk s) = false := Bool.eq_false_iff.mpr fun h => by
    have hb := bindOperandOk_iff.mp (Bool.and_eq_true_iff.mp h).2
    rw [reg_of_eq_some h1] at hb
    exact hb.elim hff (Nat.not_lt.mpr hif)
  simp only [exec, execSbind, illegal]
  exact congrArg _ (runCommand_illegal (fun _ => hl) ..)

theorem exec_sconnect {port : Half} {ra iss out : Word} (hport : port ≠ 0) (hra : ra ≠ 0)
    (h0 : s.a[(0 : Fin 8)] = some ra) (h1 : s.a[(1 : Fin 8)] = some iss) (h2 : s.a[(2 : Fin 8)] = some out)
    (hout : out.toNat < s.par.nIf) :
    exec (.sconnect sock port) s = .next (sockConnect sock.toNat port (setR0 s 0)) := by
  have operand : connectOperandOk s port = true :=
    connectOperandOk_iff.mpr ⟨hport, by rwa [reg_of_eq_some h0], by rwa [reg_of_eq_some h2]⟩
  exact congrArg _ (runCommand_held hl
    (by simp [written_of_eq_some h0, written_of_eq_some h1, written_of_eq_some h2])
    (Bool.and_eq_true_iff.mpr ⟨hasSock_iff.mpr hk, operand⟩) _)

end commands

/-! The records they leave. -/

section bodies
variable {s : State} {i : Nat}

/-- SBIND asks for a record that is held and in CLOSED (45_host_ops.md R291). -/
theorem sockBind_bindable {port : Half} (h : (s.sock i).type ≠ .unused ∧ (s.sock i).owned = true ∧
    (s.sock i).state = .closed) :
    sockBind i port s = done (setSock s i { s.sock i with
      localPort := port, localAddr := addrOperand (s.reg 0), ifBound := (s.reg 1).setWidth 8 }) .ok := by
  obtain ⟨ht, ho, hs⟩ := h
  exact if_neg (by simp [ht, ho, hs])

theorem sockBind_refused {port : Half} (h : ¬ ((s.sock i).type ≠ .unused ∧ (s.sock i).owned = true ∧
    (s.sock i).state = .closed)) : sockBind i port s = drop s .badState := by
  refine if_pos ?_
  by_contra hn
  rw [not_or, not_or, Bool.not_eq_false, ne_eq, not_not] at hn
  exact h hn

theorem sockListen_bound {y : Half} (h : boundStream (s.sock i)) :
    sockListen i y s =
      done (setSock s i { s.sock i with state := .listen, synqMax := y.setWidth 8, synq := [] }) .ok :=
  if_neg (by simp [bound_iff.mpr h])

theorem sockListen_refused {y : Half} (h : ¬ boundStream (s.sock i)) : sockListen i y s = drop s .badState :=
  if_pos (bound_eq_false h)

theorem sockRecv_bytes {most : Half} (h : heldStream (s.sock i)) (hb : (s.sock i).rxq ≠ []) :
    sockRecv i most s =
      let n := min most.toNat (s.sock i).rxq.length
      done (setOut (setR0 (setSock s i (receivedRecord n (s.sock i))) (BitVec.ofNat 32 n))
        (.bytes ((s.sock i).rxq.take n))) .ok :=
  (if_neg fun hn => not_heldStream_iff.mp hn h).trans (if_neg hb)

theorem sockRecv_empty {most : Half} (h : heldStream (s.sock i)) (hb : (s.sock i).rxq = []) :
    sockRecv i most s = done s .wouldBlock :=
  (if_neg fun hn => not_heldStream_iff.mp hn h).trans (if_pos hb)

theorem sockRecv_refused {most : Half} (h : ¬ heldStream (s.sock i)) : sockRecv i most s = drop s .badState :=
  if_pos (not_heldStream_iff.mpr h)

end bodies

/-- Settles O25: the operands are tested before the record, and the record decides between one write and a
refusal. -/
theorem openBindListenResults : Obligations.OpenBindListenResults := by
  unfold Obligations.OpenBindListenResults
  intro s hl
  refine ⟨fun y hy => exec_sopen_refused hl hy, fun y t hyt => ?_, ?_⟩
  · have known : SockType.ofOperand y = some t := by
      simp only [List.mem_cons, Prod.mk.injEq, List.not_mem_nil, or_false] at hyt
      rcases hyt with ⟨rfl, rfl⟩ | ⟨rfl, rfl⟩ | ⟨rfl, rfl⟩ <;> rfl
    rw [exec_sopen hl known, sockOpen, freeSock_setR0]
    refine ⟨fun n hn => ?_, fun hfull => ?_⟩
    · rw [freeSock_of_leastFree hn]
      rfl
    · rw [freeSock_of_tableFull hfull]
      rfl
  intro sock hk k
  refine ⟨fun port la b h0 h1 => ⟨exec_sbind_refused hl port h1, fun hb hbindable => ?_, fun hb hnot => ?_⟩,
    fun y => ⟨exec_slisten_refused hl, fun hlo hhi => ⟨fun hbound => ?_, fun hnot => ?_⟩⟩⟩
  · rw [exec_sbind hl hk port h0 h1 hb, sockBind_bindable (s := setR0 s 0) hbindable, setR0_reg, setR0_reg,
      reg_of_eq_some (i := 0) h0, reg_of_eq_some (i := 1) h1]
    rfl
  · rw [exec_sbind hl hk port h0 h1 hb, sockBind_refused (s := setR0 s 0) hnot]
    rfl
  · rw [exec_slisten hl hk ⟨hlo, hhi⟩, sockListen_bound (s := setR0 s 0) hbound]
    rfl
  · rw [exec_slisten hl hk ⟨hlo, hhi⟩, sockListen_refused (s := setR0 s 0) hnot]
    rfl

/-- Settles O29: a held stream record with bytes gives the first of them, and otherwise nothing is written to it. -/
theorem srecvTakesBytes : Obligations.SrecvTakesBytes := by
  unfold Obligations.SrecvTakesBytes
  intro s sock most hl hk hm k n
  rw [exec_srecv hl hk hm]
  refine ⟨fun held bytes => ?_, fun held empty => ?_, fun hnot => ?_⟩
  · rw [sockRecv_bytes (s := setR0 s 0) held bytes]
    rfl
  · rw [sockRecv_empty (s := setR0 s 0) held empty]
    rfl
  · rw [sockRecv_refused (s := setR0 s 0) hnot]
    rfl

end Sys2Proof.Proofs
end

section
/-! The socket operations that hand over a segment (45_host_ops.md R293 to R296): SCONNECT, SACCEPT, SSHUT, SCLOSE. -/

namespace Sys2Proof.Proofs

open Machine Claims

section rules
variable {is : List Nat} {c : Option Cause} {evs : List EvEntry} {u : State} {o : Option Outgoing} {s t : State}

theorem Effect.setR0 (h : Effect is c evs u o s t) (v : Word) : Effect is c evs u o s (setR0 t v) :=
  { h with
    tables := (sameTables_records s).setR0 h.tables v
    link := handed_after h.link ⟨rfl, rfl, rfl, rfl, rfl, rfl, rfl, rfl⟩ }

end rules

theorem rtoAsked_setR0 (s : State) (v : Word) : rtoAsked (setR0 s v) = setR0 (rtoAsked s) v := by
  unfold rtoAsked
  rw [setR0_rtoIn]
  split <;> rfl

/-- A record is written, it sends a segment, and the command ends: the records, the frame, the segment. -/
theorem Effect.written_then_sent {is : List Nat} {u s t : State} (h : Effect is none [] u none s t) {i : Nat}
    (hi : i ∈ is) (hlt : i < t.socks.length) (g : Sock) (flags : BitVec 6) (seq v : Word) :
    let w := Machine.done (Machine.setR0 (Machine.sendSegment i flags seq (Machine.setSock t i g)) v) .ok
    (w.sock i = g ∧ ∀ j, j ≠ i → w.sock j = t.sock j) ∧ Claims.quiet is none s w ∧
      oneSegment u w g.ifx g.localAddr.word g.remoteAddr.word (outSegmentOf s.par g flags seq) := by
  have record : (Machine.setSock t i g).sock i = g := sock_setSock_same _ _ _ hlt
  have effect := (((h.setSock hi g).sendSegment record flags seq).setR0 v).done .ok
  exact ⟨⟨(sendSegment_sock ..).trans record, fun j hj => (sendSegment_sock ..).trans (sock_setSock_other _ _ _ _ hj)⟩,
    effect.quiet, effect.link⟩

/-! SCONNECT. -/

section connect
variable {s : State} {i : Nat} {port : Half}

/-- The local address of an active open, where there is one (45_host_ops.md R293). -/
theorem connectAddr_of_connectFrom {k : Sock} {f : Iface} {w : Word} (h : connectFrom k f w) :
    connectAddr k f = some (.v4 w) := by
  unfold connectAddr
  rcases h with ⟨hw, h0⟩ | ⟨hun, l, e, r, hf, he, ha, hl⟩
  · rw [hw]
    exact if_neg (by simpa [isUnspec] using h0)
  · have found : f.addr.find? (fun e => decide (e.status = .valid)) = some e := by
      rw [hf]
      refine List.find?_eq_some_iff_append.mpr ⟨decide_eq_true he, l, r, rfl, fun x hx => ?_⟩
      simpa using hl x hx
    rw [found, ← ha]
    rcases hun with hun | hun <;> rw [hun] <;> rfl

theorem connectAddr_eq_none {k : Sock} {f : Iface} (hk : k.localAddr = .unspec ∨ k.localAddr = .v4 0)
    (hf : ∀ e ∈ f.addr, e.status ≠ .valid) : connectAddr k f = none := by
  have missing : f.addr.find? (fun e => decide (e.status = .valid)) = none :=
    List.find?_eq_none.mpr fun e he => by simpa using hf e he
  unfold connectAddr
  rw [missing]
  rcases hk with hk | hk <;> rw [hk] <;> rfl

theorem sockConnect_unbound (h : ¬ boundStream (s.sock i)) : sockConnect i port s = drop s .badState :=
  if_pos (bound_eq_false h)

theorem sockConnect_noAddr (h : connectAddr (s.sock i) (s.iface (s.reg 2).toNat) = none) :
    sockConnect i port s = drop s .badState := by
  unfold sockConnect
  dsimp only
  rw [h]
  exact ite_self _

theorem sockConnect_bound {la : IpAddr} (hb : boundStream (s.sock i))
    (h : connectAddr (s.sock i) (s.iface (s.reg 2).toNat) = some la) :
    sockConnect i port s =
      let r := connectRecord s.par la (s.reg 0) (s.reg 1) (s.reg 2) port (s.sock i)
      done (setR0 (sendSegment i flagSYN r.iss (setSock s i r)) 0) .ok := by
  unfold sockConnect
  dsimp only
  rw [if_neg (by simp [bound_iff.mpr hb]), h]

end connect

/-- A window or segment size between two bounds, as SCONNECT chooses it (45_host_ops.md R293). -/
theorem minHalf_maxHalf (v lo hi : Half) : minHalf (maxHalf v lo) hi =
    if v.toNat < lo.toNat then (if hi.toNat < lo.toNat then hi else lo)
    else if hi.toNat < v.toNat then hi else v := by
  unfold minHalf maxHalf
  split <;> rfl

/-- Settles O26: the local address is found first; then the record is written and sends its SYN. -/
theorem sconnectSendsSyn : Obligations.SconnectSendsSyn := by
  unfold Obligations.SconnectSendsSyn
  intro s sock port ra iss out hl hk hport h0 hra h1 h2 hout k f
  rw [exec_sconnect hl hk hport hra h0 h1 h2 hout]
  have out_eq : (setR0 s 0).reg 2 = out := reg_of_eq_some (i := 2) h2
  refine ⟨fun w bound hw => ?_, fun unbound => ?_, fun unspec invalid => ?_⟩
  · have addr : connectAddr ((setR0 s 0).sock sock.toNat) ((setR0 s 0).iface ((setR0 s 0).reg 2).toNat) =
        some (.v4 w) := by
      rw [out_eq]
      exact connectAddr_of_connectFrom hw
    have run := sockConnect_bound (s := setR0 s 0) (port := port) bound addr
    rw [out_eq, setR0_reg, setR0_reg, reg_of_eq_some (i := 0) h0, reg_of_eq_some (i := 1) h1] at run
    have hlt : sock.toNat < s.socks.length := lt_of_type_ne_unused (heldStream_used bound.1)
    obtain ⟨⟨record, -⟩, frame, segment⟩ := ((Effect.refl [sock.toNat] s).setR0 0).written_then_sent (by simp) hlt
      (connectRecord s.par (.v4 w) ra iss out port k) flagSYN iss 0
    rw [run]
    exact ⟨_, rfl, rfl, rfl, record.trans (by rw [connectRecord, minHalf_maxHalf]), frame, segment⟩
  · rw [sockConnect_unbound (s := setR0 s 0) unbound]
    rfl
  · have addr : connectAddr ((setR0 s 0).sock sock.toNat) ((setR0 s 0).iface ((setR0 s 0).reg 2).toNat) = none := by
      rw [out_eq]
      exact connectAddr_eq_none unspec invalid
    rw [sockConnect_noAddr addr]
    rfl

/-! SACCEPT. -/

section accept
variable {s : State} {i : Nat}

theorem sockAccept_refused (h : ¬ (heldStream (s.sock i) ∧ (s.sock i).state = .listen)) :
    sockAccept i s = drop s .badState := by
  refine if_pos ?_
  by_contra hn
  rw [not_or, not_or, not_not, not_not, Bool.not_eq_false] at hn
  obtain ⟨ht, ho, hs⟩ := hn
  exact h ⟨⟨ht, ho⟩, hs⟩

variable (held : heldStream (s.sock i)) (listens : (s.sock i).state = .listen)
include held listens

theorem sockAccept_empty (hq : (s.sock i).synq = []) :
    sockAccept i s = done (setR0 s 0xFFFFFFFF#32) .wouldBlock := by
  unfold sockAccept
  dsimp only
  rw [if_neg (by simp [held.1, held.2, listens]), hq]

theorem sockAccept_full {e : SynEntry} {rest : List SynEntry} (hq : (s.sock i).synq = e :: rest)
    (hn : freeSock s = none) : sockAccept i s = drop (setR0 s 0xFFFFFFFF#32) .noFreeSocket := by
  unfold sockAccept
  dsimp only
  rw [if_neg (by simp [held.1, held.2, listens]), hq, hn]

theorem sockAccept_takes {e : SynEntry} {rest : List SynEntry} (hq : (s.sock i).synq = e :: rest) {n : Nat}
    (hn : freeSock s = some n) :
    sockAccept i s =
      let r := acceptRecord s.par (s.sock i) e (s.reg 1) (rtoAnswer s)
      done (setR0 (sendSegment n (flagSYN ||| flagACK) r.iss
        (setSock (setSock (rtoAsked s) i { s.sock i with synq := rest }) n r)) (BitVec.ofNat 32 n)) .ok := by
  unfold sockAccept
  dsimp only
  rw [if_neg (by simp [held.1, held.2, listens]), hq, hn]

end accept

/-- Settles O27: the hook is asked, the request leaves the listener, and the new record sends the SYN+ACK. -/
theorem sacceptTakesOldestRequest : Obligations.SacceptTakesOldestRequest := by
  unfold Obligations.SacceptTakesOldestRequest
  intro s sock iss hl hk h1 k
  rw [exec_saccept hl hk h1]
  refine ⟨fun held listens => ⟨fun hq => ?_, fun e rest hq => ⟨fun full => ?_, fun n free => ?_⟩⟩, fun hnot => ?_⟩
  · rw [sockAccept_empty (s := setR0 s 0) held listens hq]
    rfl
  · rw [sockAccept_full (s := setR0 s 0) held listens hq (freeSock_of_tableFull full)]
    rfl
  · have run := sockAccept_takes (s := setR0 s 0) held listens hq (freeSock_of_leastFree free)
    rw [setR0_reg, reg_of_eq_some (i := 1) h1, rtoAsked_setR0] at run
    obtain ⟨hn, unused, -⟩ := free
    have hlt : sock.toNat < s.socks.length := lt_of_type_ne_unused (heldStream_used held)
    have other : sock.toNat ≠ n := fun h =>
      heldStream_used held ((congrArg (fun j => (s.sock j).type) h).trans unused)
    have taken := ((Effect.rtoAsked s [sock.toNat, n]).setR0 0).setSock (i := sock.toNat) (by simp)
      { k with synq := rest }
    obtain ⟨⟨record, others⟩, frame, segment⟩ := taken.written_then_sent (i := n) (by simp) (by simpa using hn)
      (acceptRecord s.par k e iss (rtoAnswer s)) (flagSYN ||| flagACK) iss (BitVec.ofNat 32 n)
    have listener := (others _ other).trans (sock_setSock_same _ _ _ (by simpa using hlt))
    rw [run]
    exact ⟨_, rfl, rfl, rfl, listener, record, frame, segment⟩
  · rw [sockAccept_refused (s := setR0 s 0) hnot]
    rfl

/-! SSHUT and SCLOSE. -/

section fin
variable {s t : State} {i : Nat} {k : Sock}

/-- Our FIN as one write after one segment: the record it is sent from is the one with the new state. -/
theorem sendFin_eq (hi : i < t.socks.length) (hk : t.sock i = k) (st : TcpState) : sendFin i st t =
    setSock (sendSegment i (flagFIN ||| flagACK) k.sndNxt (setSock t i { k with state := st })) i
      { k with state := st, sndNxt := k.sndNxt + 1 } := by
  have record : (setSock t i { k with state := st }).sock i = { k with state := st } := sock_setSock_same _ _ _ hi
  unfold sendFin updSock
  dsimp only
  rw [hk, sendSegment_sock, record]

theorem sendFin_effect (h : Effect [i] none [] s none s t) (hi : i < t.socks.length) (hk : t.sock i = k)
    (st : TcpState) : (sendFin i st t).sock i = { k with state := st, sndNxt := k.sndNxt + 1 } ∧
      Effect [i] none [] s (some (fromRecord s.par k (flagFIN ||| flagACK) k.sndNxt)) s (sendFin i st t) := by
  have record : (setSock t i { k with state := st }).sock i = { k with state := st } := sock_setSock_same _ _ _ hi
  rw [sendFin_eq hi hk]
  refine ⟨sock_setSock_same _ _ _ (by simpa using hi), ?_⟩
  exact ((h.setSock (by simp) _).sendSegment record _ _).setSock (by simp) _

end fin

section close
variable {s : State} {i : Nat} {st : TcpState}

/-- The states from which SSHUT sends our FIN, and where it leads (45_host_ops.md R295). -/
def shutMoves (st st' : TcpState) : Prop :=
  (st = .established ∧ st' = .finWait1) ∨ (st = .closeWait ∧ st' = .lastAck)

theorem sockShut_sends (held : heldStream (s.sock i)) (hs : shutMoves (s.sock i).state st) :
    sockShut i s = done (setR0 (updSock (sendFin i st s) i fun k => { k with ackPending := false }) 0) .ok := by
  unfold sockShut
  dsimp only
  rw [if_neg fun h => not_heldStream_iff.mp h held]
  rcases hs with ⟨hs, rfl⟩ | ⟨hs, rfl⟩ <;> rw [hs]

theorem sockShut_refused (h : heldStream (s.sock i) →
    (s.sock i).state ≠ .established ∧ (s.sock i).state ≠ .closeWait) : sockShut i s = drop s .badState := by
  unfold sockShut
  dsimp only
  by_cases held : heldStream (s.sock i)
  · obtain ⟨he, hc⟩ := h held
    rw [if_neg fun h => not_heldStream_iff.mp h held]
    split
    case h_1 hs => exact absurd hs he
    case h_2 hs => exact absurd hs hc
    all_goals rfl
  · exact if_pos (not_heldStream_iff.mpr held)

theorem sockClose_refused (h : (s.sock i).type = .unused ∨ (s.sock i).owned = false) :
    sockClose i s = drop s .badState :=
  if_pos h

theorem sockClose_held (ht : (s.sock i).type ≠ .unused) (ho : (s.sock i).owned = true) :
    sockClose i s = done (setR0 (letGo i (setSock s i { s.sock i with owned := false })) 0) .ok :=
  if_neg (by simp [ht, ho])

theorem letGo_recycles (h : (s.sock i).type ≠ .stream ∨ (s.sock i).state ∈ [TcpState.closed, .listen, .synSent]) :
    letGo i s = recycle s i := by
  unfold letGo
  dsimp only
  by_cases ht : (s.sock i).type = .stream
  · have hs := h.resolve_left (not_not.mpr ht)
    simp only [List.mem_cons, List.not_mem_nil, or_false] at hs
    rw [if_neg (not_not.mpr ht)]
    rcases hs with hs | hs | hs <;> rw [hs]
  · exact if_pos ht

theorem letGo_sends (ht : (s.sock i).type = .stream)
    (h : shutMoves (s.sock i).state st ∨ ((s.sock i).state = .synRcvd ∧ st = .finWait1)) :
    letGo i s = sendFin i st s := by
  unfold letGo
  dsimp only
  rw [if_neg (not_not.mpr ht)]
  rcases h with (⟨hs, rfl⟩ | ⟨hs, rfl⟩) | ⟨hs, rfl⟩ <;> rw [hs]

theorem letGo_leaves (ht : (s.sock i).type = .stream)
    (h : (s.sock i).state ∈ [TcpState.finWait1, .finWait2, .closing, .lastAck, .timeWait]) : letGo i s = s := by
  unfold letGo
  dsimp only
  simp only [List.mem_cons, List.not_mem_nil, or_false] at h
  rw [if_neg (not_not.mpr ht)]
  rcases h with h | h | h | h | h <;> rw [h]

end close

/-- A command ends with `g` as its record and exactly our FIN handed over (45_host_ops.md R295, R296). -/
def FinSent (s : State) (i : Nat) (x : Instr) (g : Sock) : Prop :=
  let k := s.sock i
  ∃ t, exec x s = .next t ∧ t.r0 = 0 ∧ t.st = 0 ∧ t.sock i = g ∧ quiet [i] none s t ∧
    oneSegment s t k.ifx k.localAddr.word k.remoteAddr.word
      (segmentFrom s.par k (flagFIN ||| flagACK) k.sndNxt k.rcvNxt)

section commands
variable {s : State} {sock : Byte} (hl : s.lock = .held s.tid) (hk : sock.toNat < s.par.nSock) {k : Sock}
  (hrec : s.sock sock.toNat = k)
include hl hk hrec

theorem exec_sshut_sends (held : heldStream k) {st : TcpState} (hs : shutMoves k.state st) :
    FinSent s sock.toNat (.sshut sock) { k with sndNxt := k.sndNxt + 1, state := st, ackPending := false } := by
  subst hrec
  have hlt : sock.toNat < (setR0 s 0).socks.length := lt_of_type_ne_unused (heldStream_used held)
  obtain ⟨record, effect⟩ := sendFin_effect ((Effect.refl [sock.toNat] s).setR0 0) hlt rfl st
  have paid := ((effect.updSock (i := sock.toNat) (by simp) fun k => { k with ackPending := false }).setR0 0).done .ok
  have shown := sock_updSock_same _ sock.toNat (fun k => { k with ackPending := false })
    (effect.tables.socksLen.symm ▸ hlt)
  rw [record] at shown
  exact ⟨_, (exec_sshut hl hk).trans (congrArg _ (sockShut_sends (s := setR0 s 0) held hs)), rfl, rfl, shown,
    paid.quiet, paid.link⟩

theorem exec_sshut_refused (h : heldStream k → k.state ≠ .established ∧ k.state ≠ .closeWait) :
    exec (.sshut sock) s = .next (refused s .badState) := by
  subst hrec
  exact (exec_sshut hl hk).trans (congrArg _ (sockShut_refused (s := setR0 s 0) h))

theorem exec_sclose_refused (h : k.type = .unused ∨ k.owned = false) :
    exec (.sclose sock) s = .next (refused s .badState) := by
  subst hrec
  exact (exec_sclose hl hk).trans (congrArg _ (sockClose_refused (s := setR0 s 0) h))

/-- What SCLOSE does to a held record it does with `owned` cleared already (45_host_ops.md R296). -/
theorem exec_sclose_held (ht : k.type ≠ .unused) (ho : k.owned = true) :
    let t := setSock (setR0 s 0) sock.toNat { k with owned := false }
    t.sock sock.toNat = { k with owned := false } ∧
      exec (.sclose sock) s = .next (done (setR0 (letGo sock.toNat t) 0) .ok) := by
  subst hrec
  exact ⟨sock_setSock_same _ _ _ (lt_of_type_ne_unused (s := s) ht),
    (exec_sclose hl hk).trans (congrArg _ (sockClose_held (s := setR0 s 0) ht ho))⟩

theorem exec_sclose_sends (held : heldStream k) {st : TcpState}
    (hs : shutMoves k.state st ∨ (k.state = .synRcvd ∧ st = .finWait1)) :
    FinSent s sock.toNat (.sclose sock) { k with sndNxt := k.sndNxt + 1, state := st, owned := false } := by
  obtain ⟨released, run⟩ := exec_sclose_held hl hk hrec (heldStream_used held) held.2
  rw [letGo_sends (by rw [released]; exact held.1) (by rw [released]; exact hs)] at run
  subst hrec
  have hlt : sock.toNat < s.socks.length := lt_of_type_ne_unused (heldStream_used held)
  obtain ⟨record, effect⟩ := sendFin_effect
    (((Effect.refl [sock.toNat] s).setR0 0).setSock (i := sock.toNat) (by simp) _) (by simpa using hlt) released st
  have ended := (effect.setR0 0).done .ok
  exact ⟨_, run, rfl, rfl, record, ended.quiet, ended.link⟩

theorem exec_sclose_leaves (held : heldStream k)
    (hs : k.state ∈ [TcpState.finWait1, .finWait2, .closing, .lastAck, .timeWait]) :
    exec (.sclose sock) s = .next { s with
      socks := s.socks.set sock.toNat { k with owned := false }, r0 := 0, st := 0 } := by
  obtain ⟨released, run⟩ := exec_sclose_held hl hk hrec (heldStream_used held) held.2
  rw [letGo_leaves (by rw [released]; exact held.1) (by rw [released]; exact hs)] at run
  exact run

theorem exec_sclose_recycles (ht : k.type ≠ .unused) (ho : k.owned = true)
    (hs : k.type ≠ .stream ∨ k.state ∈ [TcpState.closed, .listen, .synSent]) :
    exec (.sclose sock) s = .next { s with socks := s.socks.set sock.toNat Sock.reset, r0 := 0, st := 0 } := by
  obtain ⟨released, run⟩ := exec_sclose_held hl hk hrec ht ho
  rw [letGo_recycles (by rw [released]; exact hs), recycle, setSock_setSock] at run
  exact run

end commands

/-- Settles O28: both commands send the same FIN, from the states their rules list; what else they do is one write. -/
theorem shutAndCloseResults : Obligations.ShutAndCloseResults := by
  unfold Obligations.ShutAndCloseResults
  intro s sock hl hk k fin sent
  refine ⟨fun held => ⟨fun hs => exec_sshut_sends hl hk rfl held (.inl ⟨hs, rfl⟩),
    fun hs => exec_sshut_sends hl hk rfl held (.inr ⟨hs, rfl⟩),
    fun he hc => exec_sshut_refused hl hk rfl fun _ => ⟨he, hc⟩, fun hs => exec_sclose_sends hl hk rfl held ?_,
    fun hs => exec_sclose_sends hl hk rfl held (.inl (.inr ⟨hs, rfl⟩)), exec_sclose_leaves hl hk rfl held⟩,
    exec_sclose_recycles hl hk rfl, fun hnot => exec_sshut_refused hl hk rfl fun held => absurd held hnot,
    exec_sclose_refused hl hk rfl⟩
  exact hs.elim (fun h => .inr ⟨h, rfl⟩) fun h => .inl (.inl ⟨h, rfl⟩)

end Sys2Proof.Proofs
end

section
/-! TICK (45_host_ops.md R283): its sweeps one by one, and that TCPTICK does not read `R0`, which the sweep before it
leaves. -/

namespace Sys2Proof.Proofs

open Machine Claims

section blind
variable (s : State) (v : Word)

theorem emitState_setR0 (e : TxEntry) : emitState (setR0 s v) e = setR0 (emitState s e) v := by
  have asked : linkAsked (setR0 s v) = setR0 (linkAsked s) v := by
    unfold linkAsked
    rw [setR0_link]
    split <;> rfl
  unfold emitState
  rw [setR0_linkAnswer, asked]
  split <;> rfl

/-- The send path writes `R0` before it reads it (41_ip_admission.md R170). -/
theorem sendIp_setR0 (x : Byte) (a b : Word) (p l o : Byte) (pay : Bytes) :
    sendIp x a b p l o pay (setR0 s v) = sendIp x a b p l o pay s := by
  have next : advanceId (setR0 s v) x.toNat = setR0 (advanceId s x.toNat) v := rfl
  have fragments (g : Datagram) : sendFragments g pay (setR0 (advanceId s x.toNat) v) =
      sendFragments g pay (advanceId s x.toNat) := rfl
  unfold sendIp
  simp only [next, fragments, emitState_setR0]
  rfl

theorem sendAck_setR0 (i : Nat) : sendAck i (setR0 s v) = sendAck i s := sendIp_setR0 ..

theorem tickSock_setR0 (i : Nat) : ∃ v', tickSock i (setR0 s v) = setR0 (tickSock i s) v' := by
  have closes : enterClosed i false (setR0 s v) = setR0 (enterClosed i false s) v := by
    rw [enterClosed_eq, enterClosed_eq]
    rfl
  have test : tickCloses (setR0 s v) (s.sock i) = tickCloses s (s.sock i) := rfl
  unfold tickSock
  simp only [setR0_sock, test, closes, sendAck_setR0]
  split
  · exact ⟨v, rfl⟩
  · split
    · exact ⟨(sendAck i s).r0, rfl⟩
    · exact ⟨v, rfl⟩

theorem tickSocks_setR0 (n i m : Nat) :
    ∃ v', tickSocks n i m (setR0 s v) = (setR0 (tickSocks n i m s).1 v', (tickSocks n i m s).2) := by
  induction n generalizing i m s v with
  | zero => exact ⟨v, rfl⟩
  | succ n ih =>
    obtain ⟨v', h⟩ := tickSock_setR0 s v i
    obtain ⟨v'', h'⟩ := ih (tickSock i s) v' (i + 1) (if tickCloses s (s.sock i) then m + 1 else m)
    exact ⟨v'', (congrArg (tickSocks n (i + 1) _) h).trans h'⟩

theorem tcpTick_setR0 : tcpTick (setR0 s v) = tcpTick s := by
  obtain ⟨v', h⟩ := tickSocks_setR0 s v s.par.nSock 0 0
  unfold tcpTick
  rw [setR0_par, h]
  rfl

end blind

/-- One more interface is one more sweep at the end. -/
theorem fragTicks_succ (n i : Nat) (s : State) : fragTicks (n + 1) i s = fragTick (i + n) (fragTicks n i s) := by
  induction n generalizing i s with
  | zero => rfl
  | succ n ih =>
    rw [fragTicks, ih, fragTicks, Nat.add_assoc, Nat.add_comm 1]

theorem nIf_of_legal {p : Params} (h : p.legal = true) : 1 ≤ p.nIf ∧ p.nIf ≤ 255 := by
  simp only [Params.legal, Bool.and_eq_true, decide_eq_true_eq] at h
  omega

/-- FRAGTICK writes `R0` at its start (42_frag_reassembly.md R200). -/
theorem fragTicks_setR0 {n : Nat} (hn : 1 ≤ n) (i : Nat) (s : State) (v : Word) :
    fragTicks n i (setR0 s v) = fragTicks n i s := by
  cases n with
  | zero => cases hn
  | succ n => rfl

/-- The state behind the sweeps of the first `n` interfaces at the advanced time (45_host_ops.md R283). -/
def sweptIfaces (s : State) (n : Nat) : State := fragTicks n 0 (advanceNow s)

section sweeps
variable {s : State} (hl : s.lock = .held s.tid)

theorem sweptIfaces_kept (s : State) (n : Nat) : Kept (advanceNow s) (sweptIfaces s n) :=
  fragTicks_kept _ _ _ _ (.refl _)

include hl

theorem sweptIfaces_lock (n : Nat) : (sweptIfaces s n).lock = .held (sweptIfaces s n).tid := by
  rw [(sweptIfaces_kept s n).lock, (sweptIfaces_kept s n).tid]
  exact hl

theorem exec_fragtick_swept {n : Nat} (hn : n < s.par.nIf) (h : n ≤ 255) :
    exec (.fragtick (BitVec.ofNat 8 n)) (sweptIfaces s n) = .next (sweptIfaces s (n + 1)) := by
  have index : (BitVec.ofNat 8 n).toNat = n := Nat.mod_eq_of_lt (Nat.lt_succ_of_le h)
  have inTable : (sweptIfaces s n).hasIface (BitVec.ofNat 8 n) = true := by
    rw [hasIface_iff, index, (sweptIfaces_kept s n).par]
    exact hn
  have run := runCommand_held (sweptIfaces_lock hl n) (rs := []) rfl inTable (fragTick (BitVec.ofNat 8 n).toNat)
  refine congrArg _ (run.trans ?_)
  rw [index, sweptIfaces, sweptIfaces, fragTicks_succ, Nat.zero_add]
  rfl

theorem exec_tcptick_swept (n : Nat) : exec .tcptick (sweptIfaces s n) = .next (tcpTick (sweptIfaces s n)) :=
  congrArg _ ((runCommand_held (sweptIfaces_lock hl n) rfl rfl _).trans (tcpTick_setR0 ..))

omit hl in
theorem tcpTick_swept_now (n : Nat) : (tcpTick (sweptIfaces s n)).now = s.now + 1 :=
  (sweptIfaces_kept s n).tcpTick.now

theorem exec_tick (hpos : 1 ≤ s.par.nIf) :
    exec .tick s = .next { tcpTick (sweptIfaces s s.par.nIf) with r0 := s.now + 1 } := by
  have swept : fragTicks s.par.nIf 0 (advanceNow (setR0 s 0)) = sweptIfaces s s.par.nIf :=
    fragTicks_setR0 hpos 0 (advanceNow s) 0
  have run : periodicTick (setR0 s 0) = done (setR0 (tcpTick (sweptIfaces s s.par.nIf))
      (tcpTick (sweptIfaces s s.par.nIf)).now) .ok := by
    rw [← swept]
    rfl
  rw [tcpTick_swept_now] at run
  exact congrArg _ ((runCommand_held hl rfl rfl _).trans run)

end sweeps

/-- Settles O30: TICK is the chain of its sweeps; the result of each is lost on the next. -/
theorem tickIsItsSweeps : Obligations.TickIsItsSweeps := by
  unfold Obligations.TickIsItsSweeps
  intro s hl hp
  obtain ⟨hpos, hle⟩ := nIf_of_legal hp
  exact ⟨sweptIfaces s, tcpTick (sweptIfaces s s.par.nIf), rfl,
    fun n hn => exec_fragtick_swept hl hn (hn.le.trans hle), exec_tcptick_swept hl _, exec_tick hl hpos,
    tcpTick_swept_now _, rfl⟩

end Sys2Proof.Proofs
end

section
/-! No input of a host stops the block (60_exceptions.md R323). -/

namespace Sys2Proof.Proofs

open Machine Claims

/-- A command answers a next state: its checks end in a refusal or in its body, and neither is a fault. -/
theorem exec_command_next {x : Instr} (hx : x.isCommand = true) (s : State) : ∃ t, exec x s = .next t := by
  obtain ⟨g, ⟨body, run⟩, -⟩ := exec_runsChecked hx s
  exact ⟨_, run⟩

theorem exec_port {x : Instr} {s t : State} (e : exec x s = .next t) : t.port = s.port := by
  obtain ⟨-, -, -, -, port⟩ := surroundings_eq_iff.mp (exec_surroundings e)
  exact port

/-- A step on what a host presents completes and takes exactly one input: the ones behind it stay as they are. -/
theorem step_next_of_hostOnly {s : State} (hs : hostOnly s) : ∃ t, step s = .next t ∧ t.port = s.port.tail := by
  cases hport : s.port with
  | nil => exact ⟨s, step_empty hport, hport⟩
  | cons x rest =>
    cases x with
    | command cmd tid wdata =>
      cases hd : decode (.command cmd wdata) with
      | ok i =>
        obtain ⟨t, run⟩ := exec_command_next (decodeCommand_isCommand hd) (latched cmd tid (taking s rest))
        exact ⟨t, (step_command hport hd).trans run, exec_port run⟩
      | error r => exact ⟨_, step_illegal hport hd, rfl⟩
    | store a b => exact ⟨_, step_store hport, rfl⟩
    | reset => exact ⟨_, step_reset hport, rfl⟩
    | internal en => cases hs (.internal en) (by simp [hport])

/-- Settles O11: a command is a run behind its checks, and a step leaves the tail of what was presented. -/
theorem everyHostInputCompletes : Obligations.EveryHostInputCompletes := by
  unfold Obligations.EveryHostInputCompletes
  refine ⟨fun _ s hx => exec_command_next hx s, fun s hs => ?_⟩
  obtain ⟨t, run, port⟩ := step_next_of_hostOnly hs
  exact ⟨t, run, fun x hx => hs x (List.mem_of_mem_tail (port ▸ hx))⟩

end Sys2Proof.Proofs
end
